-- ==== Sys2Proof/Word.lean ====
section
/-! DEFINITION. The machine's data words: bytes, the 128-bit command word (R110) and the binary64
bit pattern (R13, R85). The arithmetic on binary64 is in Machine/Float64.lean. -/

namespace Sys2Proof

/-- A byte of a MIDI message or of a word moved as bytes (R85, R113). -/
abbrev Byte := BitVec 8

/-- A command word (R110): bit 127 is the most significant bit. -/
abbrev CommandWord := BitVec 128

/-- An IEEE 754 binary64 value as its interchange bit pattern (R85): bit 63 the sign, bits 62..52
the exponent, bits 51..0 the fraction. Equality of this type is equality of patterns; the
comparison of values is `F64.eq`. -/
structure F64 where
  bits : BitVec 64
  deriving DecidableEq, Repr, Inhabited

end Sys2Proof
end

