-- ==== Sys2Proof/Syntax.lean ====
section
/-! DEFINITION. The commands of S01-CMD-1: one constructor for each row of spec/opcode_table.json,
with the operands that R121 gives it. `b1` and `b2` are the raw data bytes of the message and `value`
is the raw VALUE field (R122): clamping and sanitising belong to the meanings (R293, R330). -/

namespace Sys2Proof

/-- A decoded command (R121). -/
inductive Instr where
  /-- NOP, KIND 0x0 (R303). -/
  | nop
  /-- MIDI_ACTIVE_SENSING, status 0xFE at any length (R292). -/
  | midiActiveSensing
  /-- MIDI_BAD_LENGTH, a length other than 3 (R291). -/
  | midiBadLength
  /-- MIDI_NOTE_ON, status 0x90 with a nonzero velocity byte (R294). -/
  | midiNoteOn (b1 b2 : Byte)
  /-- MIDI_NOTE_ON_VEL0, status 0x90 with velocity byte 0 (R295). -/
  | midiNoteOnVel0 (b1 : Byte)
  /-- MIDI_NOTE_OFF, status 0x80 (R296). -/
  | midiNoteOff (b1 b2 : Byte)
  /-- MIDI_OTHER, any other status (R297). -/
  | midiOther
  /-- PARAM oscillator.level (R333). -/
  | paramOscLevel (value : F64)
  /-- PARAM oscillator.type (R334). -/
  | paramOscType (value : F64)
  /-- PARAM oscillator.frequency (R335). -/
  | paramOscFrequency (value : F64)
  /-- PARAM subOscillator.level (R336). -/
  | paramSubLevel (value : F64)
  /-- PARAM subOscillator.type (R337). -/
  | paramSubType (value : F64)
  /-- PARAM subOscillator.frequency (R338). -/
  | paramSubFrequency (value : F64)
  /-- PARAM filter.cutoff (R339). -/
  | paramFilterCutoff (value : F64)
  /-- PARAM filter.resonance (R340). -/
  | paramFilterResonance (value : F64)
  /-- PARAM filter.type (R341). -/
  | paramFilterType (value : F64)
  /-- PARAM envelope.attack (R342). -/
  | paramEnvAttack (value : F64)
  /-- PARAM envelope.decay (R343). -/
  | paramEnvDecay (value : F64)
  /-- PARAM envelope.sustain (R344). -/
  | paramEnvSustain (value : F64)
  /-- PARAM envelope.release (R345). -/
  | paramEnvRelease (value : F64)
  /-- PARAM lfo.level (R346). -/
  | paramLfoLevel (value : F64)
  /-- PARAM lfo.frequency (R347). -/
  | paramLfoFrequency (value : F64)
  /-- PARAM with DEST 0x5 to 0xF (R331). -/
  | paramUnknownDest
  /-- PARAM with a known destination and a pair not in R117 (R332). -/
  | paramUnknownParam
  /-- KIND 0x3 to 0xF (R303). -/
  | reservedKind
  deriving DecidableEq, Repr

end Sys2Proof
end

