-- ==== Sys2Proof/WellFormed.lean ====
section
/-! DEFINITION. Which commands the encoding can carry. The one field relation the constructors do not
hold by their types: a MIDI_NOTE_ON has a nonzero velocity byte (R120 rows 3 and 4, R294). -/

namespace Sys2Proof

/-- The command is one that some word decodes to (R120, R121). -/
def Instr.wellFormed : Instr → Bool
  | .midiNoteOn _ b2 => b2 != 0
  | .nop | .midiActiveSensing | .midiBadLength | .midiNoteOnVel0 _ | .midiNoteOff _ _ | .midiOther
  | .paramOscLevel _ | .paramOscType _ | .paramOscFrequency _
  | .paramSubLevel _ | .paramSubType _ | .paramSubFrequency _
  | .paramFilterCutoff _ | .paramFilterResonance _ | .paramFilterType _
  | .paramEnvAttack _ | .paramEnvDecay _ | .paramEnvSustain _ | .paramEnvRelease _
  | .paramLfoLevel _ | .paramLfoFrequency _
  | .paramUnknownDest | .paramUnknownParam | .reservedKind => true

end Sys2Proof
end

