-- ==== Sys2Proof/Decode.lean ====
section
/-! DEFINITION. The decoder of R121, total on every word; words moved as bytes (R85); and an encoder
from the formats of R112 to R114. -/

namespace Sys2Proof

/-! ### Fields (R110, R113, R114, R122) -/

/-- KIND, bits [127:124]. -/
def fieldKind (w : CommandWord) : BitVec 4 := w.extractLsb' 124 4

/-- LEN of a MIDI word, bits [123:120]. -/
def fieldLen (w : CommandWord) : BitVec 4 := w.extractLsb' 120 4

/-- B0 of a MIDI word, bits [119:112]. -/
def fieldB0 (w : CommandWord) : Byte := w.extractLsb' 112 8

/-- B1 of a MIDI word, bits [111:104]. -/
def fieldB1 (w : CommandWord) : Byte := w.extractLsb' 104 8

/-- B2 of a MIDI word, bits [103:96]. -/
def fieldB2 (w : CommandWord) : Byte := w.extractLsb' 96 8

/-- DEST of a PARAM word, bits [123:120]. -/
def fieldDest (w : CommandWord) : BitVec 4 := w.extractLsb' 120 4

/-- PARAM of a PARAM word, bits [119:112]. -/
def fieldParam (w : CommandWord) : BitVec 8 := w.extractLsb' 112 8

/-- VALUE of a PARAM word, bits [63:0]. -/
def fieldValue (w : CommandWord) : F64 := ⟨w.extractLsb' 0 64⟩

/-! ### The decoder (R121) -/

/-- The MIDI dispatch of R120 and R290, first match wins. -/
def decodeMidi (len : BitVec 4) (b0 b1 b2 : Byte) : Instr :=
  if b0 = 0xFE#8 then .midiActiveSensing
  else if len ≠ 3#4 then .midiBadLength
  else if b0 = 0x90#8 ∧ b2 ≠ 0#8 then .midiNoteOn b1 b2
  else if b0 = 0x90#8 then .midiNoteOnVel0 b1
  else if b0 = 0x80#8 then .midiNoteOff b1 b2
  else .midiOther

/-- The PARAM dispatch: the destination first, then the table of recognised pairs (R117, R121). -/
def decodeParam (dest : BitVec 4) (par : BitVec 8) (value : F64) : Instr :=
  if 4 < dest.toNat then .paramUnknownDest
  else
    match dest.toNat, par.toNat with
    | 0, 0 => .paramOscLevel value
    | 0, 1 => .paramOscType value
    | 0, 2 => .paramOscFrequency value
    | 1, 0 => .paramSubLevel value
    | 1, 1 => .paramSubType value
    | 1, 2 => .paramSubFrequency value
    | 2, 1 => .paramFilterType value
    | 2, 3 => .paramFilterCutoff value
    | 2, 4 => .paramFilterResonance value
    | 3, 5 => .paramEnvAttack value
    | 3, 6 => .paramEnvDecay value
    | 3, 7 => .paramEnvSustain value
    | 3, 8 => .paramEnvRelease value
    | 4, 0 => .paramLfoLevel value
    | 4, 2 => .paramLfoFrequency value
    | _, _ => .paramUnknownParam

/-- The decoder of R121: every word decodes to exactly one command. -/
def decode (w : CommandWord) : Instr :=
  if fieldKind w = 0x0#4 then .nop
  else if fieldKind w = 0x1#4 then decodeMidi (fieldLen w) (fieldB0 w) (fieldB1 w) (fieldB2 w)
  else if fieldKind w = 0x2#4 then decodeParam (fieldDest w) (fieldParam w) (fieldValue w)
  else .reservedKind

/-! ### Words moved as bytes (R81, R85) -/

/-- Why a byte string is no command word. -/
inductive DecodeError where
  /-- Not exactly sixteen bytes (R81: a word is delivered only when all 16 bytes have arrived). -/
  | notOneWord (bytes : Nat)
  deriving DecidableEq, Repr

/-- A number from its bytes, most significant first (R85). -/
def natOfBytes (bs : List Byte) : Nat :=
  bs.foldl (fun acc b => acc * 256 + b.toNat) 0

/-- The `n` bytes of a number, most significant first (R85). -/
def bytesOfNat (n v : Nat) : List Byte :=
  (List.range n).map fun i => BitVec.ofNat 8 (v / 256 ^ (n - 1 - i))

/-- The command word whose byte 0 is bits [127:120] and byte 15 is bits [7:0] (R85). -/
def wordOfBytes (bs : List Byte) : Except DecodeError CommandWord :=
  if bs.length = 16 then .ok (BitVec.ofNat 128 (natOfBytes bs))
  else .error (.notOneWord bs.length)

/-- The sixteen bytes of a command word (R85). -/
def bytesOfWord (w : CommandWord) : List Byte := bytesOfNat 16 w.toNat

/-- The eight bytes of a status register (R85). -/
def bytesOfStatus (v : BitVec 64) : List Byte := bytesOfNat 8 v.toNat

/-- The decoder on bytes: total, and a byte string that is no word is rejected by name. -/
def decodeBytes (bs : List Byte) : Except DecodeError Instr :=
  match wordOfBytes bs with
  | .ok w => .ok (decode w)
  | .error e => .error e

/-- The command that the decoder reads from the word whose bits are `w`, numbered as
spec/opcode_table.json numbers them, with every bit from `nbits` on 0: the word is laid out as its
sixteen bytes and given to the decoder. -/
def decodeTableWord (nbits w : Nat) : Option Instr :=
  match decodeBytes (bytesOfWord (BitVec.ofNat 128 (w % 2 ^ nbits))) with
  | .ok i => some i
  | .error _ => none

/-! ### The encoder (R112 to R116)

Reserved fields are written as 0 (R125). A command without operands stands for many words; the
encoder writes the one with the smallest codes that R121 decodes to it (log 22). -/

/-- A MIDI word (R113). -/
def midiWord (len : BitVec 4) (b0 b1 b2 : Byte) : CommandWord :=
  0x1#4 ++ len ++ b0 ++ b1 ++ b2 ++ 0#96

/-- A PARAM word (R114). -/
def paramWord (dest : BitVec 4) (par : BitVec 8) (value : F64) : CommandWord :=
  0x2#4 ++ dest ++ par ++ 0#48 ++ value.bits

/-- A word of KIND `k` with all other bits 0 (R112, R125). -/
def kindWord (k : BitVec 4) : CommandWord := k ++ 0#124

/-- The word of a well-formed command. -/
def encode : Instr → CommandWord
  | .nop => kindWord 0x0
  | .midiActiveSensing => midiWord 1 0xFE 0 0
  | .midiBadLength => midiWord 0 0 0 0
  | .midiNoteOn b1 b2 => midiWord 3 0x90 b1 b2
  | .midiNoteOnVel0 b1 => midiWord 3 0x90 b1 0
  | .midiNoteOff b1 b2 => midiWord 3 0x80 b1 b2
  | .midiOther => midiWord 3 0 0 0
  | .paramOscLevel v => paramWord 0 0x00 v
  | .paramOscType v => paramWord 0 0x01 v
  | .paramOscFrequency v => paramWord 0 0x02 v
  | .paramSubLevel v => paramWord 1 0x00 v
  | .paramSubType v => paramWord 1 0x01 v
  | .paramSubFrequency v => paramWord 1 0x02 v
  | .paramFilterCutoff v => paramWord 2 0x03 v
  | .paramFilterResonance v => paramWord 2 0x04 v
  | .paramFilterType v => paramWord 2 0x01 v
  | .paramEnvAttack v => paramWord 3 0x05 v
  | .paramEnvDecay v => paramWord 3 0x06 v
  | .paramEnvSustain v => paramWord 3 0x07 v
  | .paramEnvRelease v => paramWord 3 0x08 v
  | .paramLfoLevel v => paramWord 4 0x00 v
  | .paramLfoFrequency v => paramWord 4 0x02 v
  | .paramUnknownDest => paramWord 5 0x00 ⟨0⟩
  | .paramUnknownParam => paramWord 0 0x03 ⟨0⟩
  | .reservedKind => kindWord 0x3

end Sys2Proof
end

