-- ==== Sys2Proof/Config.lean ====
section
/-! DEFINITION. The configuration of an engine (R7 to R10, R51) and the free values: constants with
no body for what the spec leaves open. -/

namespace Sys2Proof

/-- The five parameters fixed at construction (R7 to R10, R51). `fs` is an integer held as binary64
(R7); `F64.ofNat` gives that value. -/
structure Config where
  fs : Nat
  block : Nat
  fifoDepth : Nat
  oscOctave : Int
  subOctave : Int
  deriving DecidableEq, Repr

/-- The legal configurations: R7, R8, R9 and R10. -/
def Config.legal (c : Config) : Bool :=
  decide (8000 ≤ c.fs ∧ c.fs ≤ 768000) && decide (1 ≤ c.block) && decide (1 ≤ c.fifoDepth) &&
  decide (-64 ≤ c.oscOctave ∧ c.oscOctave ≤ 64) && decide (-64 ≤ c.subOctave ∧ c.subOctave ≤ 64)

/-- The configuration of `Machine.State.reset`. BLOCK, FIFO_DEPTH and the octaves are the reference
values of R8 to R10; FS has no default (R7), and 48000 is a DESIGN CHOICE (log 2, unsafe for a claim
read as being about every FS). -/
def Config.reference : Config :=
  { fs := 48000, block := 128, fifoDepth := 64, oscOctave := 0, subOctave := 1 }

/-- The operations whose result can be a NaN. -/
inductive NanOp where
  | add | sub | mul | div | floor
  deriving DecidableEq, Repr

/-- The three numeric functions of R11. -/
inductive NumFn where
  | pow2 | sinTurns | cosTurns
  deriving DecidableEq, Repr

/-- Free value (log 5): the sign (bit 51) and the payload (bits 50..0) of a NaN result. The spec says
that a NaN propagates under IEEE rules (R240), and IEEE 754 fixes neither. -/
opaque Config.nanChoice : NanOp → F64 → F64 → BitVec 52

/-- Free value (log 3): which of two neighbouring candidates a numeric function of R11 takes where
the model's enclosure of the real value does not decide the rounding. -/
opaque Config.roundUp : NumFn → F64 → Bool

/-- Free value (log 6): a numeric function of R11 at an argument that is no real number. -/
opaque Config.numFnOpen : NumFn → F64 → F64

/-- Free value (log 7): `floor` of an infinity. -/
opaque Config.floorOpen : F64 → F64

/-- Free value (log 8): `min` (false) and `max` (true) with a NaN argument (R18 defines neither). -/
opaque Config.minMaxOpen : Bool → F64 → F64 → F64

/-- Free value (log 9): `rne` of a value that is not finite. -/
opaque Config.rneOpen : F64 → Int

/-- Free value (log 11): the status-window content of a count too wide for its field. -/
opaque Config.wideField : Nat → BitVec 64

end Sys2Proof
end

