-- ==== Sys2Proof/Machine/Float64.lean ====
section
/-! DEFINITION. IEEE 754 binary64 arithmetic (R13, R14, R18), exact and then rounded once.

Every finite binary64 value is a whole number of units of 2^-1074, so a sum of two is a whole number
of units, a product is a whole number of units over 2^1074, and a quotient is a ratio of units. One
function, `F64.roundMag`, rounds a ratio to nearest, ties to even, subnormals kept (R13).
The operations are named functions; no operator stands for them. They are irreducible for the
elaborator, so that a proof about a state does not evaluate the numbers in it; `unfold` and the kernel
see through them. -/

namespace Sys2Proof

/-! ### The parts of a pattern -/

/-- The sign bit. -/
def F64.sign (x : F64) : Bool := x.bits.msb

/-- The pattern without its sign, bits [62:0]. It grows with the magnitude of the value. -/
def F64.mag (x : F64) : Nat := x.bits.toNat % 2 ^ 63

/-- The magnitude pattern of infinity. -/
def F64.infMag : Nat := 2047 * 2 ^ 52

/-- The value is NaN. -/
def F64.isNaN (x : F64) : Bool := decide (F64.infMag < x.mag)

/-- The value is +infinity or -infinity. -/
def F64.isInf (x : F64) : Bool := decide (x.mag = F64.infMag)

/-- `finite(v)` of R18. -/
def F64.finite (x : F64) : Bool := decide (x.mag < F64.infMag)

/-- The value is +0.0 or -0.0. -/
def F64.isZero (x : F64) : Bool := decide (x.mag = 0)

/-- The value with the given sign and magnitude pattern. -/
def F64.ofMag (s : Bool) (m : Nat) : F64 := ⟨BitVec.ofBool s ++ BitVec.ofNat 63 m⟩

/-- How many units of 2^-1074 make the finite value of a magnitude pattern. -/
def F64.magUnits (m : Nat) : Nat :=
  if m / 2 ^ 52 = 0 then m % 2 ^ 52 else (2 ^ 52 + m % 2 ^ 52) * 2 ^ (m / 2 ^ 52 - 1)

/-- The magnitude of a finite value in units of 2^-1074. -/
def F64.units (x : F64) : Nat := F64.magUnits x.mag

/-- A finite value in units of 2^-1074. -/
def F64.signedUnits (x : F64) : Int := if x.sign then -(x.units : Int) else x.units

/-- 1.0 is 2^1074 units. Irreducible for the elaborator only, which is not to expand the power; the
kernel evaluates it. -/
@[irreducible] def F64.unitExp : Nat := 1074

/-- The number of units in 1.0. -/
def F64.one1074 : Nat := 2 ^ F64.unitExp

/-! ### Rounding (R13) -/

/-- `n / d` to the nearest whole number, ties to even (d > 0). -/
def F64.rneDiv (n d : Nat) : Nat :=
  if 2 * (n % d) < d then n / d
  else if d < 2 * (n % d) then n / d + 1
  else n / d + n / d % 2

/-- The magnitude pattern of the binary64 nearest to `n / d` units of 2^-1074, ties to even, d > 0.
`n / d` is cut to 53 significant bits (fewer below 2^53 units, where the patterns count units) and
rounded there; the pattern of a rounded significand in binade `sh` is `sh * 2^52` plus the
significand, a carry into the next binade included; from the largest finite value's upper midpoint on
the result is infinity. -/
@[irreducible] def F64.roundMag (n d : Nat) : Nat :=
  min (2 ^ 52 * ((n / d).log2 - 52) + F64.rneDiv n (d * 2 ^ ((n / d).log2 - 52))) F64.infMag

/-- The binary64 nearest to the real number `n / d` with sign `s`. -/
def F64.ofRat (s : Bool) (n d : Nat) : F64 := F64.ofMag s (F64.roundMag (F64.one1074 * n) d)

/-- `f64(i)` of R18: an integer rounded to binary64. -/
def F64.ofInt (i : Int) : F64 := F64.ofRat (decide (i < 0)) i.natAbs 1

/-- `f64(n)` of R18 for a natural number. -/
def F64.ofNat (n : Nat) : F64 := F64.ofRat false n 1

/-! ### Constants of the rules -/

/-- +0.0. -/
def F64.zero : F64 := ⟨0⟩

/-- 1.0. -/
def F64.one : F64 := F64.ofNat 1

/-- 2.0. -/
def F64.two : F64 := F64.ofNat 2

/-! ### NaN -/

/-- A NaN result: exponent all ones, quiet bit set, the sign and payload a free value (log 5). -/
def F64.nan (op : NanOp) (x y : F64) : F64 :=
  ⟨(Config.nanChoice op x y).extractLsb' 51 1 ++ 0xFFF#12 ++
    (Config.nanChoice op x y).extractLsb' 0 51⟩

/-! ### Comparison (R18: defined on values that are not NaN; false otherwise) -/

/-- The order of the values that are not NaN: -0.0 and +0.0 have the same key. -/
def F64.key (x : F64) : Int := if x.sign then -(x.mag : Int) else x.mag

/-- `x < y`. -/
def F64.lt (x y : F64) : Bool := !x.isNaN && !y.isNaN && decide (x.key < y.key)

/-- `x <= y`. -/
def F64.le (x y : F64) : Bool := !x.isNaN && !y.isNaN && decide (x.key ≤ y.key)

/-- `x = y` as values. -/
def F64.eq (x y : F64) : Bool := !x.isNaN && !y.isNaN && decide (x.key = y.key)

/-- `min(a, b)` of R18: `a` where they are equal; free where one is NaN (log 8). -/
def F64.min (a b : F64) : F64 :=
  if a.isNaN || b.isNaN then Config.minMaxOpen false a b else if F64.lt b a then b else a

/-- `max(a, b)` of R18: `a` where they are equal; free where one is NaN (log 8). -/
def F64.max (a b : F64) : F64 :=
  if a.isNaN || b.isNaN then Config.minMaxOpen true a b else if F64.lt a b then b else a

/-- `clamp(v, lo, hi)` of R18. -/
def F64.clamp (v lo hi : F64) : F64 :=
  if F64.lt v lo then lo else if F64.lt hi v then hi else v

/-! ### Arithmetic (R13) -/

/-- Negation: the sign bit inverted, exact (R231). -/
def F64.neg (x : F64) : F64 := F64.ofMag (!x.sign) x.mag

/-- The sum of two finite values. An exact zero sum is +0.0 unless both are negative. -/
def F64.addFinite (x y : F64) : F64 :=
  if x.signedUnits + y.signedUnits = 0 then F64.ofMag (x.sign && y.sign) 0
  else F64.ofMag (decide (x.signedUnits + y.signedUnits < 0))
    (F64.roundMag (x.signedUnits + y.signedUnits).natAbs 1)

/-- The sum where an operand may be infinite but none is NaN; `op` names the operation for a NaN
result (infinity minus infinity). -/
def F64.addNumbers (op : NanOp) (x y : F64) : F64 :=
  if x.isInf then (if y.isInf && (x.sign != y.sign) then F64.nan op x y else x)
  else if y.isInf then y
  else F64.addFinite x y

/-- `x + y`. -/
@[irreducible] def F64.add (x y : F64) : F64 :=
  if x.isNaN || y.isNaN then F64.nan .add x y else F64.addNumbers .add x y

/-- `x - y`. -/
@[irreducible] def F64.sub (x y : F64) : F64 :=
  if x.isNaN || y.isNaN then F64.nan .sub x y else F64.addNumbers .sub x y.neg

/-- The product of two numbers of units, `F64.unitsProduct_eq` in Laws. Asking for the larger first
keeps the kernel from unfolding a product of an unknown and a large literal. -/
def F64.unitsProduct (a b : Nat) : Nat := if a ≤ b then a * b else b * a

/-- `x × y`. -/
@[irreducible] def F64.mul (x y : F64) : F64 :=
  if x.isNaN || y.isNaN then F64.nan .mul x y
  else if x.isInf || y.isInf then
    if x.isZero || y.isZero then F64.nan .mul x y else F64.ofMag (x.sign != y.sign) F64.infMag
  else F64.ofMag (x.sign != y.sign) (F64.roundMag (F64.unitsProduct x.units y.units) F64.one1074)

/-- `x / y`. -/
@[irreducible] def F64.div (x y : F64) : F64 :=
  if x.isNaN || y.isNaN then F64.nan .div x y
  else if x.isInf then
    if y.isInf then F64.nan .div x y else F64.ofMag (x.sign != y.sign) F64.infMag
  else if y.isInf then F64.ofMag (x.sign != y.sign) 0
  else if y.isZero then
    if x.isZero then F64.nan .div x y else F64.ofMag (x.sign != y.sign) F64.infMag
  else F64.ofMag (x.sign != y.sign) (F64.roundMag (F64.one1074 * x.units) y.units)

/-! ### Whole numbers (R18) -/

/-- `floor(x)`: the largest integral value not above `x`; exact. The floor of -0.0 is -0.0
(log 7, DEDUCED); of an infinity, free (log 7); of NaN, NaN. -/
@[irreducible] def F64.floor (x : F64) : F64 :=
  if x.isNaN then F64.nan .floor x x
  else if x.isInf then Config.floorOpen x
  else if x.sign then F64.ofRat true ((F64.one1074 - 1 + x.units) / F64.one1074) 1
  else F64.ofRat false (x.units / F64.one1074) 1

/-- `rne(x)`: the nearest whole number, ties to even, as an integer; free where `x` is not finite
(log 9). -/
@[irreducible] def F64.rne (x : F64) : Int :=
  if x.finite then
    if x.sign then -(F64.rneDiv x.units F64.one1074 : Int) else F64.rneDiv x.units F64.one1074
  else Config.rneOpen x

end Sys2Proof
end

