-- ==== Sys2Proof/Machine/Transcendental.lean ====
section
/-! DEFINITION. The numeric functions of R11: `pow2`, `sinTurns`, `cosTurns`, correctly rounded.

Each is computed as an enclosure: two ratios of whole numbers between which the real value lies.
Where both round to the same binary64 value, that value is the correctly rounded one. Where they do
not, the free value `Config.roundUp` takes one of the two (log 3). At an argument that is no real
number the result is the free value `Config.numFnOpen` (log 6). The argument reduction is exact. -/

namespace Sys2Proof

/-- A real value in units of 2^-1074, between `lo / den` and `hi / den`. -/
structure Enclosure where
  lo : Nat
  hi : Nat
  den : Nat
  deriving DecidableEq, Repr

/-- Fraction bits of the fixed-point numbers of the series. -/
def fixBits : Nat := 192

/-- 1 as a fixed-point number. -/
def fixOne : Nat := 2 ^ fixBits

/-- The whole part of pi times 2^192 (mathematics, not a choice; log 3). -/
def piFix : Nat := 0x3243f6a8885a308d313198a2e03707344a4093822299f31d0

/-- The whole part of the natural logarithm of 2, times 2^192 (log 3). -/
def ln2Fix : Nat := 0xb17217f7d1cf79abc9e3b39803f2f6af40f343267298b62d

/-- Lower and upper bounds of `1 - y2/c(k) × (1 - y2/c(k+1) × (1 - ...))`, where `y2` lies between
`y2lo` and `y2hi` and the innermost factor of the `fuel` written out lies in [0, 1]. With `c(k) =
2k(2k+1)` from k = 1 it is sin(y)/y, with `c(k) = (2k-1)2k` it is cos(y), for `y2` the square of y. -/
def alternating (c : Nat → Nat) (y2lo y2hi : Nat) : (fuel k : Nat) → Nat × Nat
  | 0, _ => (0, fixOne)
  | fuel + 1, k =>
    (fixOne - (y2hi * (alternating c y2lo y2hi fuel (k + 1)).2 / (fixOne * c k) + 1),
     fixOne - y2lo * (alternating c y2lo y2hi fuel (k + 1)).1 / (fixOne * c k))

/-- Lower and upper bounds of `1 + y/k × (1 + y/(k+1) × (1 + ...))`, the innermost factor in [1, 2]. -/
def growing (ylo yhi : Nat) : (fuel k : Nat) → Nat × Nat
  | 0, _ => (fixOne, 2 * fixOne)
  | fuel + 1, k =>
    (fixOne + ylo * (growing ylo yhi fuel (k + 1)).1 / (fixOne * k),
     fixOne + (yhi * (growing ylo yhi fuel (k + 1)).2 / (fixOne * k) + 1))

/-- Terms written out in the series of sine and cosine. -/
def sineTerms : Nat := 24

/-- Terms written out in the series of the exponential. -/
def expTerms : Nat := 44

/-- Lower bound of the square of (pi/2) × z, for z a number of units, as a fixed-point number. -/
def angleSqLo (z : Nat) : Nat :=
  (piFix * z) ^ 2 / (4 * fixOne * F64.one1074 ^ 2)

/-- Upper bound of the square of (pi/2) × z. -/
def angleSqHi (z : Nat) : Nat :=
  ((piFix + 1) * z) ^ 2 / (4 * fixOne * F64.one1074 ^ 2) + 1

/-- sin((pi/2) × z) for z units, 0 < z, at most half of 1.0: the angle times sin(y)/y. -/
def sineSmall (z : Nat) : Enclosure :=
  { lo := piFix * z * (alternating (fun k => 2 * k * (2 * k + 1)) (angleSqLo z) (angleSqHi z) sineTerms 1).1
    hi := (piFix + 1) * z *
      (alternating (fun k => 2 * k * (2 * k + 1)) (angleSqLo z) (angleSqHi z) sineTerms 1).2
    den := 2 * fixOne * fixOne }

/-- cos((pi/2) × z) for z units, 0 < z, at most half of 1.0. -/
def cosineSmall (z : Nat) : Enclosure :=
  { lo := F64.one1074 *
      (alternating (fun k => (2 * k - 1) * (2 * k)) (angleSqLo z) (angleSqHi z) sineTerms 1).1
    hi := F64.one1074 *
      (alternating (fun k => (2 * k - 1) * (2 * k)) (angleSqLo z) (angleSqHi z) sineTerms 1).2
    den := fixOne }

/-- sin((pi/2) × z) for z units, z from 0 to 1.0: exact at both ends; above half of 1.0 it is the
cosine of the complement. -/
def quarterSine (z : Nat) : Enclosure :=
  if z = 0 then { lo := 0, hi := 0, den := 1 }
  else if F64.one1074 ≤ z then { lo := F64.one1074, hi := F64.one1074, den := 1 }
  else if 2 * z ≤ F64.one1074 then sineSmall z
  else cosineSmall (F64.one1074 - z)

/-- The magnitude of sin(2 × pi × r) for r units, r below 1.0, by quarter turns. -/
def turnSine (r : Nat) : Enclosure :=
  if 4 * r / F64.one1074 % 2 = 0 then quarterSine (4 * r % F64.one1074)
  else quarterSine (F64.one1074 - 4 * r % F64.one1074)

/-- The magnitude pattern of an enclosed value, rounded to nearest. -/
def Enclosure.round (e : Enclosure) (fn : NumFn) (x : F64) : Nat :=
  if F64.roundMag e.lo e.den = F64.roundMag e.hi e.den then F64.roundMag e.lo e.den
  else if Config.roundUp fn x then F64.roundMag e.hi e.den else F64.roundMag e.lo e.den

/-- The value of a rounded sine with the sign of the real value; an exact zero is +0.0 (log 4). -/
def signedSine (neg : Bool) (m : Nat) : F64 := F64.ofMag (neg && decide (m ≠ 0)) m

/-- `sinTurns(t)`: sin(2 × pi × t) rounded to nearest (R11). -/
@[irreducible] def sinTurns (t : F64) : F64 :=
  if t.finite then
    signedSine (t.sign != decide (2 ≤ 4 * (t.units % F64.one1074) / F64.one1074))
      ((turnSine (t.units % F64.one1074)).round .sinTurns t)
  else Config.numFnOpen .sinTurns t

/-- `cosTurns(t)`: cos(2 × pi × t) rounded to nearest (R11), as the sine a quarter turn on. -/
@[irreducible] def cosTurns (t : F64) : F64 :=
  if t.finite then
    signedSine
      (decide (2 ≤ 4 * ((F64.one1074 / 4 + t.units) % F64.one1074) / F64.one1074))
      ((turnSine ((F64.one1074 / 4 + t.units) % F64.one1074)).round .cosTurns t)
  else Config.numFnOpen .cosTurns t

/-- 2^f for f units, 0 ≤ f, below 1.0, as a fixed-point enclosure within [1, 2]. -/
def powFraction (f : Nat) : Nat × Nat :=
  if f = 0 then (fixOne, fixOne)
  else
    ((growing (ln2Fix * f / F64.one1074) ((ln2Fix + 1) * f / F64.one1074 + 1) expTerms 1).1,
     Nat.min
      (growing (ln2Fix * f / F64.one1074) ((ln2Fix + 1) * f / F64.one1074 + 1) expTerms 1).2
      (2 * fixOne))

/-- 2^(n + f) for n from -1075 and f units, in units of 2^-1074. -/
def powEnclosure (n : Int) (f : Nat) : Enclosure :=
  { lo := (powFraction f).1 * 2 ^ (n + 1075).toNat
    hi := (powFraction f).2 * 2 ^ (n + 1075).toNat
    den := 2 * fixOne }

/-- `pow2(x)`: 2^x rounded to nearest (R11); x is split into its floor and its fraction. -/
@[irreducible] def pow2 (x : F64) : F64 :=
  if x.finite then
    if 1023 < x.signedUnits / (F64.one1074 : Int) then F64.ofMag false F64.infMag
    else if x.signedUnits / (F64.one1074 : Int) < -1075 then F64.ofMag false 0
    else F64.ofMag false
      ((powEnclosure (x.signedUnits / (F64.one1074 : Int))
        (x.signedUnits % (F64.one1074 : Int)).toNat).round .pow2 x)
  else Config.numFnOpen .pow2 x

end Sys2Proof
end

