-- ==== Sys2Proof/Machine/Registers.lean ====
section
/-! DEFINITION. The register groups of the engine (R31 to R44) and their enumerations with the codes of
R33, R35, R36, R39, R41, R118 and R119. -/

namespace Sys2Proof

/-- OSC.KIND and SUB.KIND (R33, R118). -/
inductive Waveform where
  | sine | square | sawtooth | triangle
  deriving DecidableEq, Repr

/-- LFO.KIND, hardwired to sine (R35, R180): a register with one value (log 18). -/
inductive LfoKind where
  | sine
  deriving DecidableEq, Repr

/-- FLT.TYPE (R36, R119, R230). -/
inductive FilterType where
  | lowpass | highpass | bandpass | notch | allpass
  deriving DecidableEq, Repr

/-- ENV.MODE (R39). -/
inductive EnvMode where
  | idle | on | off
  deriving DecidableEq, Repr

/-- ENV_STAGE (R41), a function of the schedule, kept in the status snapshot (R268). -/
inductive EnvStage where
  | idle | attack | decay | sustain | release
  deriving DecidableEq, Repr

/-- The code of a waveform (R118). -/
def Waveform.code : Waveform → Nat
  | .sine => 0 | .square => 1 | .sawtooth => 2 | .triangle => 3

/-- The waveform of a code 0 to 3 (R118). -/
def Waveform.ofCode : Nat → Option Waveform
  | 0 => some .sine | 1 => some .square | 2 => some .sawtooth | 3 => some .triangle | _ => none

/-- The code of LFO.KIND: always 0 (R35). -/
def LfoKind.code : LfoKind → Nat
  | .sine => 0

/-- The code of a filter type (R119). -/
def FilterType.code : FilterType → Nat
  | .lowpass => 0 | .highpass => 1 | .bandpass => 2 | .notch => 3 | .allpass => 4

/-- The filter type of a code 0 to 4 (R119). -/
def FilterType.ofCode : Nat → Option FilterType
  | 0 => some .lowpass | 1 => some .highpass | 2 => some .bandpass | 3 => some .notch
  | 4 => some .allpass | _ => none

/-- The code of ENV.MODE (R39). -/
def EnvMode.code : EnvMode → Nat
  | .idle => 0 | .on => 1 | .off => 2

/-- The code of ENV_STAGE (R41). -/
def EnvStage.code : EnvStage → Nat
  | .idle => 0 | .attack => 1 | .decay => 2 | .sustain => 3 | .release => 4

/-- The registers of an oscillator, OSC (R33) or SUB (R34). -/
structure Osc where
  kind : Waveform
  level : F64
  freq : F64
  phase : F64
  oct : Int
  deriving DecidableEq, Repr

/-- The registers of the LFO (R35). -/
structure Lfo where
  kind : LfoKind
  level : F64
  freq : F64
  phase : F64
  deriving DecidableEq, Repr

/-- The filter's parameter (R36), coefficient (R37) and delay registers (R38). -/
structure Flt where
  type : FilterType
  cutoff : F64
  q : F64
  b0 : F64
  b1 : F64
  b2 : F64
  a1 : F64
  a2 : F64
  x1 : F64
  x2 : F64
  y1 : F64
  y2 : F64
  deriving DecidableEq, Repr

/-- The envelope's schedule (R39) and parameter registers (R40). `nseg` is the 2-bit ENV.NSEG with
its legal values 0, 1 and 2; `a`, `d`, `s` and `r` are ENV.A, ENV.D, ENV.S and ENV.R. -/
structure Env where
  mode : EnvMode
  peak : F64
  v0 : F64
  nseg : Fin 3
  seg0Tgt : F64
  seg0Len : BitVec 64
  seg1Tgt : F64
  seg1Len : BitVec 64
  k : BitVec 64
  a : BitVec 7
  d : BitVec 7
  s : BitVec 7
  r : BitVec 7
  deriving DecidableEq, Repr

/-- Every register but the FIFO (R31): what a status snapshot copies (R268). -/
structure Regs where
  sampleCount : BitVec 64
  osc : Osc
  sub : Osc
  lfo : Lfo
  flt : Flt
  env : Env
  noteActive : BitVec 128
  noteLast : BitVec 32
  ovf : Bool
  deriving DecidableEq, Repr

/-- The status snapshot (R48, R268): every register but the FIFO, with ENV_GAIN and ENV_STAGE as
they were when it was taken. -/
structure Snapshot where
  regs : Regs
  gain : F64
  stage : EnvStage
  deriving DecidableEq, Repr

end Sys2Proof
end

