-- ==== Sys2Proof/Machine/Operands.lean ====
section
/-! DEFINITION. The operand forms of the commands: the MIDI data clamp (R293), the sanitised VALUE
(R330) and every check and clamp of the table in R349, with the ranges that depend on FS. -/

namespace Sys2Proof

/-! ### Ranges that depend on the configuration -/

/-- FS as the binary64 value it is held as (R7). -/
def Config.fsF (c : Config) : F64 := F64.ofNat c.fs

/-- FS/2, exact in binary64 (R157). -/
def Config.halfFs (c : Config) : F64 := F64.div c.fsF F64.two

/-- The upper bound of FLT.CUTOFF, min(20000.0, FS/2 - 1.0) (R36, R236). -/
def Config.cutoffMax (c : Config) : F64 :=
  F64.min (F64.ofNat 20000) (F64.sub c.halfFs F64.one)

/-- The lower bound of FLT.CUTOFF, 20.0 (R236). -/
def cutoffMin : F64 := F64.ofNat 20

/-- The bounds of FLT.Q: 0.0001 and 1000.0 (R237). -/
def qMin : F64 := F64.ofRat false 1 10000

/-- The upper bound of FLT.Q (R237). -/
def qMax : F64 := F64.ofNat 1000

/-- 127.0, the top of the MIDI range. -/
def f127 : F64 := F64.ofNat 127

/-! ### MIDI data (R293) -/

/-- `min(B, 127)`: a data byte clamped to the MIDI range. -/
def clampData (b : Byte) : BitVec 7 := if 127 < b.toNat then 127#7 else b.setWidth 7

/-! ### PARAM values (R330, R349) -/

/-- A VALUE is ignored unless it is finite, and -0.0 becomes +0.0 (R330). -/
def sanitise (v : F64) : Option F64 :=
  if v.finite then some (if v.isZero then F64.zero else v) else none

/-- The code of a `type` VALUE: the whole number in 0 to k - 1 that it is exactly (`is_code(v, k)`
and `int(v)` of R18, R334, R341). -/
def codeOf (k : Nat) (v : F64) : Option Nat :=
  (List.range k).find? fun i => F64.eq v (F64.ofNat i)

/-- The velocity-to-gain curve (R154). -/
def vgain (v : F64) : F64 := F64.div v f127

/-- A level VALUE: clamped to [0, 127], then v/127 (R155, R333). -/
def levelOf (v : F64) : F64 := vgain (F64.clamp v F64.zero f127)

/-- A frequency or depth VALUE: clamped to [-FS/2, FS/2] (R157, R186, R187). -/
def freqOf (c : Config) (v : F64) : F64 := F64.clamp v c.halfFs.neg c.halfFs

/-- A cutoff VALUE: clamped to [20, min(20000, FS/2 - 1)] (R236). -/
def cutoffOf (c : Config) (v : F64) : F64 := F64.clamp v cutoffMin c.cutoffMax

/-- A resonance VALUE: clamped to [0.0001, 1000] (R237). -/
def resonanceOf (v : F64) : F64 := F64.clamp v qMin qMax

/-- An envelope parameter VALUE: clamped to [0, 127], then rounded half to even (R342). -/
def envParamOf (v : F64) : BitVec 7 := BitVec.ofInt 7 (F64.rne (F64.clamp v F64.zero f127))

/-- A waveform VALUE (R334): exactly one of the four codes. -/
def waveformOf (v : F64) : Option Waveform := (codeOf 4 v).bind Waveform.ofCode

/-- A filter type VALUE (R341): exactly one of the five codes. -/
def filterTypeOf (v : F64) : Option FilterType := (codeOf 5 v).bind FilterType.ofCode

end Sys2Proof
end

