-- ==== Sys2Proof/Machine/Envelope.lean ====
section
/-! DEFINITION. The envelope's ramp follower (42_envelope.md) on its register group. -/

namespace Sys2Proof

/-- `rampLen(x)`, a ramp length in samples (R191). -/
def rampLen (c : Config) (x : BitVec 7) : BitVec 64 :=
  BitVec.ofInt 64 (F64.rne
    (F64.mul (F64.mul (F64.div (F64.ofNat x.toNat) f127) (F64.ofNat 5)) c.fsF))

/-- The unclamped value of `ramp` (R194). -/
def rampLine (a b : F64) (j n : Nat) : F64 :=
  F64.add a (F64.mul (F64.sub b a) (F64.div (F64.ofNat j) (F64.ofNat n)))

/-- `ramp(a, b, j, n)`: interpolation inside a segment (R194). -/
def ramp (a b : F64) (j n : Nat) : F64 :=
  F64.clamp (rampLine a b j n) (F64.min a b) (F64.max a b)

/-- The valid segments of the schedule: target and length (R39, R193). -/
def Env.segments (e : Env) : List (F64 × BitVec 64) :=
  [(e.seg0Tgt, e.seg0Len), (e.seg1Tgt, e.seg1Len)].take e.nseg.val

/-- The walk of `G()` over the segments from start position `t` and start value `v` (R193). -/
def walkSegments (k : Nat) : Nat → F64 → List (F64 × BitVec 64) → F64
  | _, v, [] => v
  | t, v, (tgt, len) :: rest =>
    if k < t + len.toNat then ramp v tgt (k - t) len.toNat
    else walkSegments k (t + len.toNat) tgt rest

/-- `G()`, the gain that the next tick applies (R193). -/
def Env.gain (e : Env) : F64 := walkSegments e.k.toNat 0 e.v0 e.segments

/-- `ENV_STAGE` (R41). -/
def Env.stage (e : Env) : EnvStage :=
  match e.mode with
  | .idle => .idle
  | .off => if e.seg0Len.toNat ≤ e.k.toNat then .idle else .release
  | .on =>
    if e.k.toNat < e.seg0Len.toNat then .attack
    else if e.nseg = 2 ∧ e.k.toNat < e.seg0Len.toNat + e.seg1Len.toNat then .decay
    else .sustain

/-- The peak gain of a trigger (R192). -/
def peakOf (vel : BitVec 7) : F64 := vgain (F64.ofNat vel.toNat)

/-- The sustain level for a peak (R195, R197). -/
def sustainOf (s : BitVec 7) (peak : F64) : F64 :=
  F64.mul (F64.div (F64.ofNat s.toNat) f127) peak

/-- The attack segment, the peak and the restart, common to both forms of `triggerOn` (R195). -/
def Env.attack (c : Config) (vel : BitVec 7) (e : Env) : Env :=
  { e with
    mode := .on, peak := peakOf vel, v0 := F64.zero, nseg := 1,
    seg0Tgt := peakOf vel, seg0Len := rampLen c e.a, k := 0 }

/-- `triggerOn(vel)` (R195 to R197): the decay segment only when ENV.D is below 127. -/
def Env.triggerOn (c : Config) (vel : BitVec 7) (e : Env) : Env :=
  if e.d.toNat < 127 then
    { e.attack c vel with
      nseg := 2, seg1Tgt := sustainOf e.s (peakOf vel), seg1Len := rampLen c e.d }
  else e.attack c vel

/-- `triggerOff()` (R198): a release from the current gain. -/
def Env.triggerOff (c : Config) (e : Env) : Env :=
  { e with
    mode := .off, v0 := e.gain, nseg := 1, seg0Tgt := F64.zero, seg0Len := rampLen c e.r, k := 0 }

/-- `sat_inc` of R18 on 64 bits. -/
def satInc (k : BitVec 64) : BitVec 64 := if k.toNat < 2 ^ 64 - 1 then k + 1 else k

/-- The per-tick advance of ENV.K (R201, R203). -/
def Env.advance (e : Env) : Env := { e with k := satInc e.k }

end Sys2Proof
end

