-- ==== Sys2Proof/Machine/Filter.lean ====
section
/-! DEFINITION. The resonant filter (43_filter.md) on its register group. -/

namespace Sys2Proof

/-- The raw coefficients of R231. -/
structure RawCoeffs where
  b0 : F64
  b1 : F64
  b2 : F64
  a0 : F64
  a1 : F64
  a2 : F64
  deriving DecidableEq, Repr

/-- -2.0. -/
def minusTwo : F64 := F64.two.neg

/-- The raw coefficients from the cosine `co` and the ratio `al` of R231. -/
def rawOf (type : FilterType) (co al : F64) : RawCoeffs :=
  match type with
  | .lowpass =>
    { b0 := F64.div (F64.sub F64.one co) F64.two, b1 := F64.sub F64.one co,
      b2 := F64.div (F64.sub F64.one co) F64.two,
      a0 := F64.add F64.one al, a1 := F64.mul minusTwo co, a2 := F64.sub F64.one al }
  | .highpass =>
    { b0 := F64.div (F64.add F64.one co) F64.two, b1 := (F64.add F64.one co).neg,
      b2 := F64.div (F64.add F64.one co) F64.two,
      a0 := F64.add F64.one al, a1 := F64.mul minusTwo co, a2 := F64.sub F64.one al }
  | .bandpass =>
    { b0 := al, b1 := F64.zero, b2 := al.neg,
      a0 := F64.add F64.one al, a1 := F64.mul minusTwo co, a2 := F64.sub F64.one al }
  | .notch =>
    { b0 := F64.one, b1 := F64.mul minusTwo co, b2 := F64.one,
      a0 := F64.add F64.one al, a1 := F64.mul minusTwo co, a2 := F64.sub F64.one al }
  | .allpass =>
    { b0 := F64.sub F64.one al, b1 := F64.mul minusTwo co, b2 := F64.add F64.one al,
      a0 := F64.add F64.one al, a1 := F64.mul minusTwo co, a2 := F64.sub F64.one al }

/-- `t` of R231: turns per sample. -/
def turnsPerSample (c : Config) (fc : F64) : F64 := F64.div fc c.fsF

/-- `raw(type, fc, q)` (R231). -/
def rawCoeffs (c : Config) (type : FilterType) (fc q : F64) : RawCoeffs :=
  rawOf type (cosTurns (turnsPerSample c fc))
    (F64.div (sinTurns (turnsPerSample c fc)) (F64.mul F64.two q))

/-- The coefficient registers from raw coefficients: each normalised by a0 (R232). -/
def Flt.setCoeffs (f : Flt) (w : RawCoeffs) : Flt :=
  { f with
    b0 := F64.div w.b0 w.a0, b1 := F64.div w.b1 w.a0, b2 := F64.div w.b2 w.a0,
    a1 := F64.div w.a1 w.a0, a2 := F64.div w.a2 w.a0 }

/-- `recompute()` (R232). -/
def Flt.recompute (c : Config) (f : Flt) : Flt :=
  f.setCoeffs (rawCoeffs c f.type f.cutoff f.q)

/-- `setCutoff(hz)` (R236). -/
def Flt.setCutoff (c : Config) (hz : F64) (f : Flt) : Flt :=
  Flt.recompute c { f with cutoff := cutoffOf c hz }

/-- `setResonance(q)` (R237). -/
def Flt.setResonance (c : Config) (q : F64) (f : Flt) : Flt :=
  Flt.recompute c { f with q := resonanceOf q }

/-- `setType(kind)` for a filter type (R238). -/
def Flt.setType (c : Config) (type : FilterType) (f : Flt) : Flt :=
  Flt.recompute c { f with type := type }

/-- The difference equation in Direct Form I, left to right (R233). -/
def Flt.output (f : Flt) (x : F64) : F64 :=
  F64.sub
    (F64.sub
      (F64.add (F64.add (F64.mul f.b0 x) (F64.mul f.b1 f.x1)) (F64.mul f.b2 f.x2))
      (F64.mul f.a1 f.y1))
    (F64.mul f.a2 f.y2)

/-- The delay line after input `x` and its output (R234). -/
def Flt.shift (f : Flt) (x : F64) : Flt :=
  { f with x2 := f.x1, x1 := x, y2 := f.y1, y1 := f.output x }

end Sys2Proof
end

