-- ==== Sys2Proof/Machine/Oscillator.lean ====
section
/-! DEFINITION. The oscillator's operations (40_oscillator.md) and the LFO's sample and phase
(41_lfo.md), on register groups. -/

namespace Sys2Proof

/-- `noteToFrequency(note, oct)` (R150, R151). -/
def noteToFrequency (note : Nat) (oct : Int) : F64 :=
  F64.div
    (F64.mul (F64.ofNat 440)
      (pow2 (F64.div (F64.sub (F64.ofNat note) (F64.ofNat 69)) (F64.ofNat 12))))
    (if oct ≠ 0 then F64.mul F64.two (F64.ofInt oct) else F64.one)

/-- `playNote(M, note)`: the base frequency jumps, nothing else changes (R152, R163). -/
def Osc.playNote (o : Osc) (note : BitVec 7) : Osc :=
  { o with freq := noteToFrequency note.toNat o.oct }

/-- `w` of R158 before the wrap is checked. -/
def wrapTurns (q : F64) : F64 := F64.sub q (F64.floor q)

/-- `adv(p, inc)`: the phase advance (R158). -/
def adv (p inc : F64) : F64 :=
  if F64.eq (wrapTurns (F64.add p inc)) F64.one then F64.zero else wrapTurns (F64.add p inc)

/-- 0.25, 0.5 and 0.75, the corners of the waveforms. -/
def quarter : F64 := F64.ofRat false 1 4

/-- 0.5. -/
def half : F64 := F64.ofRat false 1 2

/-- 0.75. -/
def threeQuarters : F64 := F64.ofRat false 3 4

/-- 4.0. -/
def four : F64 := F64.ofNat 4

/-- `wave(k, p)` (R159). -/
def wave : Waveform → F64 → F64
  | .sine, p => sinTurns p
  | .square, p => if F64.lt p half then F64.one else F64.one.neg
  | .sawtooth, p =>
    if F64.lt p half then F64.mul F64.two p else F64.sub (F64.mul F64.two p) F64.two
  | .triangle, p =>
    if F64.lt p quarter then F64.mul four p
    else if F64.lt p threeQuarters then F64.sub F64.two (F64.mul four p)
    else F64.sub (F64.mul four p) four

/-- `osc_sample(M)` (R161). -/
def Osc.sample (o : Osc) : F64 := F64.mul o.level (wave o.kind o.phase)

/-- The phase of the next tick, for the LFO sample `l` of this one (R162, R183). -/
def Osc.advance (c : Config) (l : F64) (o : Osc) : Osc :=
  { o with phase := adv o.phase (F64.div (F64.add o.freq l) c.fsF) }

/-- The waveform of the LFO: its KIND register is hardwired to sine (R180). -/
def LfoKind.waveform : LfoKind → Waveform
  | .sine => .sine

/-- The LFO sample of a tick (R181). -/
def Lfo.sample (o : Lfo) : F64 := F64.mul o.level (wave o.kind.waveform o.phase)

/-- The LFO phase of the next tick (R184). -/
def Lfo.advance (c : Config) (o : Lfo) : Lfo :=
  { o with phase := adv o.phase (F64.div o.freq c.fsF) }

end Sys2Proof
end

