-- ==== Sys2Proof/Machine/Reset.lean ====
section
/-! DEFINITION. The register values that reset gives (R47, R410), for any configuration, and what a
status snapshot copies (R268). -/

namespace Sys2Proof

/-- A snapshot of registers with the gain and the stage computed from them (R268). -/
def snapshotOf (r : Regs) : Snapshot := { regs := r, gain := r.env.gain, stage := r.env.stage }

/-- OSC and SUB after reset, for an octave (R47, R410). -/
def resetOsc (oct : Int) : Osc :=
  { kind := .sine, level := F64.one, freq := noteToFrequency 69 oct, phase := F64.zero, oct := oct }

/-- The LFO after reset (R47, R410). -/
def resetLfo : Lfo :=
  { kind := .sine, level := F64.zero, freq := F64.ofNat 5, phase := F64.zero }

/-- The reset value of FLT.Q, 0.7071067811865476 (R36). -/
def resetQ : F64 := ⟨0x3FE6A09E667F3BCD⟩

/-- The filter after reset: the parameters of R47, their coefficients, a clear delay line. -/
def resetFlt (c : Config) : Flt :=
  Flt.recompute c
    { type := .lowpass, cutoff := c.cutoffMax, q := resetQ,
      b0 := F64.zero, b1 := F64.zero, b2 := F64.zero, a1 := F64.zero, a2 := F64.zero,
      x1 := F64.zero, x2 := F64.zero, y1 := F64.zero, y2 := F64.zero }

/-- The envelope after reset (R47, R410). -/
def resetEnv : Env :=
  { mode := .idle, peak := F64.zero, v0 := F64.zero, nseg := 0,
    seg0Tgt := F64.zero, seg0Len := 0, seg1Tgt := F64.zero, seg1Len := 0, k := 0,
    a := 0, d := 127, s := 127, r := 0 }

/-- Every register after reset for a configuration (R47, R410). -/
def resetRegs (c : Config) : Regs :=
  { sampleCount := 0, osc := resetOsc c.oscOctave, sub := resetOsc c.subOctave, lfo := resetLfo,
    flt := resetFlt c, env := resetEnv, noteActive := 0, noteLast := 0, ovf := false }

end Sys2Proof
end

