-- ==== Sys2Proof/Machine/State.lean ====
section
/-! DEFINITION. The state of the machine: every register the spec names (R31), the configuration
(R51, log 1), the place inside a block step (R264, log 12) and what the outside world holds (R6, R80,
logs 13 and 15). Plain data. And the state after reset (R47, R410). -/

namespace Sys2Proof.Machine

/-- An act of the host at the engine's interface (R6, R96, R125, log 13). -/
inductive HostAction where
  /-- Push a command word (R82, R83). -/
  | push (w : CommandWord)
  /-- Deliver a command word as bytes (R81, R85). -/
  | pushBytes (bytes : List Byte)
  /-- Read a status register by index (R48, R86). -/
  | readStatus (index : Nat)
  /-- Read a status register moved as bytes (R85). -/
  | readStatusBytes (index : Nat)
  /-- Reset, which constructs the engine for a configuration (R410). -/
  | reset (cfg : Config)
  /-- Let the engine take its next step. -/
  | elapse
  /-- The directive `run n`: n block steps (R125). -/
  | run (blocks : Nat)
  deriving DecidableEq, Repr

/-- Where the engine is inside a block step (R264, log 12). -/
inductive Seq where
  /-- At a block boundary: the next engine step takes the FIFO. -/
  | boundary
  /-- The batch taken at the boundary, head first, less the words already applied. -/
  | applying (batch : List CommandWord)
  /-- Ticking: so many ticks of the block are still to come; at 0 the snapshot is taken. -/
  | ticking (left : Nat)
  deriving DecidableEq, Repr

/-- What the outside world holds: the host's actions still to come (log 13), the samples handed to
the audio sink, oldest first (R95, log 15), and the status values and bytes read, oldest first. -/
structure Outside where
  script : List HostAction
  audio : List F64
  reads : List (BitVec 64)
  readBytes : List Byte
  deriving DecidableEq, Repr

/-- The machine: the registers of `Regs` (R31), the configuration, the command FIFO (R45, head
first), the status snapshot, the place in the block step and the outside world. -/
structure State extends Regs where
  cfg : Config
  fifo : List CommandWord
  snapshot : Snapshot
  seq : Seq
  outside : Outside
  deriving DecidableEq, Repr

/-- Why the machine stops with a fault: never. The engine has no exceptions and no traps (R380), so
this type has no constructor, and every claim that a step faults is false. Nobody raises it; safe. -/
inductive Fault where
  deriving DecidableEq, Repr

/-- Why a step has no outcome. The last four are host acts outside the engine's interface. -/
inductive Refusal where
  /-- The command has no meaning in this model yet; only `exec` answers it. Safe. -/
  | notModelled (mnemonic : String)
  /-- A status read of an index above 0x3F, raised by a read action: "a model refuses such a read"
  (R86, D40). Safe. -/
  | statusIndexAbove3F (index : Nat)
  /-- A reset with an illegal configuration, raised by the reset action: "else the model refuses: no
  engine exists" (R410). Safe. -/
  | illegalConfig (cfg : Config)
  /-- Part of a command word, raised by the push of bytes: a word is delivered only when all 16 bytes
  have arrived, and never in part (R81). Safe. -/
  | partialWord (bytes : Nat)
  /-- A reset while a block step runs, raised by the reset action: no block step overlaps a reset
  (R411). Safe. -/
  | resetInsideBlock
  deriving DecidableEq, Repr

/-- The engine that reset constructs for a configuration (R410), with nothing outside it. -/
def State.resetWith (c : Config) : State :=
  { toRegs := resetRegs c, cfg := c, fifo := [], snapshot := snapshotOf (resetRegs c),
    seq := .boundary, outside := { script := [], audio := [], reads := [], readBytes := [] } }

/-- The machine right after reset, for the configuration of log 2. -/
def State.reset : State := State.resetWith Config.reference

end Sys2Proof.Machine
end

