-- ==== Sys2Proof/Machine/Ops.lean ====
section
/-! DEFINITION. The named operations over the state: one write for each register group, the
note-state machine (R298 to R302), the tick (R263) and the two ends of a block step (R264, R268).

Taking an exception has no operation here: the engine has no exceptions, saves no state and has no
vector, handler or return (R380, R384). -/

namespace Sys2Proof.Machine

/-- What one step answers. -/
abbrev StepResult := Host.Outcome State Fault Refusal

/-! ### Writes of register groups (R17: a write takes effect at once) -/

def State.setOsc (s : State) (o : Osc) : State := { s with osc := o }

def State.setSub (s : State) (o : Osc) : State := { s with sub := o }

def State.setLfo (s : State) (o : Lfo) : State := { s with lfo := o }

def State.setFlt (s : State) (f : Flt) : State := { s with flt := f }

def State.setEnv (s : State) (e : Env) : State := { s with env := e }

def State.setNoteActive (s : State) (a : BitVec 128) : State := { s with noteActive := a }

def State.setNoteLast (s : State) (v : BitVec 32) : State := { s with noteLast := v }

def State.setFifo (s : State) (q : List CommandWord) : State := { s with fifo := q }

def State.setOvf (s : State) (b : Bool) : State := { s with ovf := b }

def State.setSeq (s : State) (q : Seq) : State := { s with seq := q }

def State.setOutside (s : State) (o : Outside) : State := { s with outside := o }

/-! ### The note-state machine -/

/-- The set with only note `n` (R42). -/
def noteBit (n : BitVec 7) : BitVec 128 := 1#128 <<< n.toNat

/-- `max_bit(S)` of R18: the highest held note. `noteOff` asks it only of a set that is not empty. -/
def maxBit (a : BitVec 128) : BitVec 7 := BitVec.ofNat 7 a.toNat.log2

/-- Both oscillators play a note (R152, R298). -/
def State.retune (note : BitVec 7) (s : State) : State :=
  (s.setOsc (s.osc.playNote note)).setSub (s.sub.playNote note)

/-- The envelope part of `noteOn`: a trigger when a velocity is given and is nonzero (R298). -/
def State.triggerFor (vel : Option (BitVec 7)) (s : State) : State :=
  match vel with
  | none => s
  | some v => if v = 0 then s else s.setEnv (s.env.triggerOn s.cfg v)

/-- `noteOn(note, vel)`, vel = none for a legato retune (R298, R301). -/
def State.noteOn (note : BitVec 7) (vel : Option (BitVec 7)) (s : State) : State :=
  ((s.setNoteActive (s.noteActive ||| noteBit note)).retune note).triggerFor vel

/-- The second part of `noteOff`, once the note is out of the set (R299, R300). -/
def State.release (s : State) : State :=
  if s.noteActive = 0 then s.setEnv (s.env.triggerOff s.cfg)
  else s.noteOn (maxBit s.noteActive) none

/-- `noteOff(note)` (R299). -/
def State.noteOff (note : BitVec 7) (s : State) : State :=
  (s.setNoteActive (s.noteActive &&& ~~~ noteBit note)).release

/-- The layout of NOTE.LAST (R44). -/
def lastEvent (event : BitVec 8) (note vel : BitVec 7) : BitVec 32 :=
  event ++ 0#8 ++ (0#1 ++ note) ++ (0#1 ++ vel)

/-- NOTE.LAST records a note event (R302). -/
def State.recordEvent (event : BitVec 8) (note vel : BitVec 7) (s : State) : State :=
  s.setNoteLast (lastEvent event note vel)

/-! ### The tick (R263) -/

/-- The mixer (R261). -/
def State.mixIn (s : State) : F64 := F64.add s.osc.sample s.sub.sample

/-- The sample of a tick: the filter output times the envelope gain (R233, R262). -/
def State.sampleOut (s : State) : F64 := F64.mul (s.flt.output s.mixIn) s.env.gain

/-- `emit(y)` of R18: the sample goes to the audio sink (R95). -/
def State.emit (y : F64) (s : State) : State :=
  s.setOutside { s.outside with audio := s.outside.audio ++ [y] }

/-- Every running register one sample on (R263). Each right side reads the state before the tick. -/
def State.advanceRegs (s : State) : State :=
  { s with
    flt := s.flt.shift s.mixIn
    env := s.env.advance
    lfo := s.lfo.advance s.cfg
    osc := s.osc.advance s.cfg s.lfo.sample
    sub := s.sub.advance s.cfg s.lfo.sample
    sampleCount := s.sampleCount + 1 }

/-- `tick()` (R263). -/
def State.tick (s : State) : State := s.advanceRegs.emit s.sampleOut

/-! ### The ends of a block step (R264) -/

/-- The boundary: the batch is every entry of the FIFO, and the FIFO is empty (R84, R264). -/
def State.takeBatch (s : State) : State := { s with fifo := [], seq := .applying s.fifo }

/-- The end of a block step: the snapshot copies every register but the FIFO (R87, R268). -/
def State.publish (s : State) : State :=
  { s with snapshot := snapshotOf s.toRegs, seq := .boundary }

end Sys2Proof.Machine
end

