-- ==== Sys2Proof/Machine/Ignored.lean ====
section
/-! DEFINITION. The commands that change no state at all (R18 `ignore`, R123): each has a definition of
its own. -/

namespace Sys2Proof.Machine

/-- `ignore` of R18: the command ends with no change to any state. -/
def ignore (s : State) : StepResult := .next s

/-- NOP (R303). -/
def execNop (s : State) : StepResult := ignore s

/-- MIDI_ACTIVE_SENSING (R292). -/
def execMidiActiveSensing (s : State) : StepResult := ignore s

/-- MIDI_BAD_LENGTH (R291). -/
def execMidiBadLength (s : State) : StepResult := ignore s

/-- MIDI_OTHER (R297). -/
def execMidiOther (s : State) : StepResult := ignore s

/-- PARAM_UNKNOWN_DEST (R331). -/
def execParamUnknownDest (s : State) : StepResult := ignore s

/-- PARAM_UNKNOWN_PARAM (R332). -/
def execParamUnknownParam (s : State) : StepResult := ignore s

/-- RESERVED_KIND (R303). -/
def execReservedKind (s : State) : StepResult := ignore s

end Sys2Proof.Machine
end

