-- ==== Sys2Proof/Machine/Midi.lean ====
section
/-! DEFINITION. The note commands (R294, R295, R296): the data bytes are clamped (R293), the note
routine runs, then NOTE.LAST records the event (R302). -/

namespace Sys2Proof.Machine

/-- MIDI_NOTE_ON (R294). -/
def execMidiNoteOn (b1 b2 : Byte) (s : State) : StepResult :=
  .next ((s.noteOn (clampData b1) (some (clampData b2))).recordEvent 1 (clampData b1) (clampData b2))

/-- MIDI_NOTE_ON_VEL0, a note-off recorded with velocity 0 (R295). -/
def execMidiNoteOnVel0 (b1 : Byte) (s : State) : StepResult :=
  .next ((s.noteOff (clampData b1)).recordEvent 2 (clampData b1) 0)

/-- MIDI_NOTE_OFF (R296). -/
def execMidiNoteOff (b1 b2 : Byte) (s : State) : StepResult :=
  .next ((s.noteOff (clampData b1)).recordEvent 2 (clampData b1) (clampData b2))

end Sys2Proof.Machine
end

