-- ==== Sys2Proof/Machine/Param.lean ====
section
/-! DEFINITION. The fifteen parameter commands (R333 to R347). Each sanitises its VALUE first (R330):
a VALUE that is not finite ignores the command. -/

namespace Sys2Proof.Machine

/-- A parameter command on its sanitised VALUE (R330). -/
def withValue (v : F64) (f : F64 → State → State) (s : State) : StepResult :=
  match sanitise v with
  | some x => .next (f x s)
  | none => .next s

/-! ### Oscillator and sub-oscillator -/

/-- `setWaveform(OSC, int(v))` for a waveform code, else no change (R156, R334). -/
def State.setOscType (x : F64) (s : State) : State :=
  match waveformOf x with
  | some k => s.setOsc { s.osc with kind := k }
  | none => s

/-- `setWaveform(SUB, int(v))` for a waveform code, else no change (R156, R337). -/
def State.setSubType (x : F64) (s : State) : State :=
  match waveformOf x with
  | some k => s.setSub { s.sub with kind := k }
  | none => s

/-- PARAM oscillator.level (R333). -/
def execParamOscLevel (v : F64) (s : State) : StepResult :=
  withValue v (fun x t => t.setOsc { t.osc with level := levelOf x }) s

/-- PARAM oscillator.type (R334). -/
def execParamOscType (v : F64) (s : State) : StepResult :=
  withValue v State.setOscType s

/-- PARAM oscillator.frequency (R335). -/
def execParamOscFrequency (v : F64) (s : State) : StepResult :=
  withValue v (fun x t => t.setOsc { t.osc with freq := freqOf t.cfg x }) s

/-- PARAM subOscillator.level (R336). -/
def execParamSubLevel (v : F64) (s : State) : StepResult :=
  withValue v (fun x t => t.setSub { t.sub with level := levelOf x }) s

/-- PARAM subOscillator.type (R337). -/
def execParamSubType (v : F64) (s : State) : StepResult :=
  withValue v State.setSubType s

/-- PARAM subOscillator.frequency (R338). -/
def execParamSubFrequency (v : F64) (s : State) : StepResult :=
  withValue v (fun x t => t.setSub { t.sub with freq := freqOf t.cfg x }) s

/-! ### Filter -/

/-- `setType` for a filter type code, else no change and no recompute (R238, R341). -/
def State.setFilterType (x : F64) (s : State) : State :=
  match filterTypeOf x with
  | some k => s.setFlt (s.flt.setType s.cfg k)
  | none => s

/-- PARAM filter.cutoff (R339). -/
def execParamFilterCutoff (v : F64) (s : State) : StepResult :=
  withValue v (fun x t => t.setFlt (t.flt.setCutoff t.cfg x)) s

/-- PARAM filter.resonance (R340). -/
def execParamFilterResonance (v : F64) (s : State) : StepResult :=
  withValue v (fun x t => t.setFlt (t.flt.setResonance t.cfg x)) s

/-- PARAM filter.type (R341). -/
def execParamFilterType (v : F64) (s : State) : StepResult :=
  withValue v State.setFilterType s

/-! ### Envelope -/

/-- PARAM envelope.attack (R342). -/
def execParamEnvAttack (v : F64) (s : State) : StepResult :=
  withValue v (fun x t => t.setEnv { t.env with a := envParamOf x }) s

/-- PARAM envelope.decay (R343). -/
def execParamEnvDecay (v : F64) (s : State) : StepResult :=
  withValue v (fun x t => t.setEnv { t.env with d := envParamOf x }) s

/-- PARAM envelope.sustain (R344). -/
def execParamEnvSustain (v : F64) (s : State) : StepResult :=
  withValue v (fun x t => t.setEnv { t.env with s := envParamOf x }) s

/-- PARAM envelope.release (R345). -/
def execParamEnvRelease (v : F64) (s : State) : StepResult :=
  withValue v (fun x t => t.setEnv { t.env with r := envParamOf x }) s

/-! ### LFO -/

/-- PARAM lfo.level (R346). -/
def execParamLfoLevel (v : F64) (s : State) : StepResult :=
  withValue v (fun x t => t.setLfo { t.lfo with level := freqOf t.cfg x }) s

/-- PARAM lfo.frequency (R347). -/
def execParamLfoFrequency (v : F64) (s : State) : StepResult :=
  withValue v (fun x t => t.setLfo { t.lfo with freq := freqOf t.cfg x }) s

end Sys2Proof.Machine
end

