-- ==== Sys2Proof/Machine/Dispatch.lean ====
section
/-! DEFINITION. One arm for each command: the meaning it calls. -/

namespace Sys2Proof.Machine

def exec (i : Instr) (s : State) : Host.Outcome State Fault Refusal :=
  match i with
  | .nop => Sys2Proof.Machine.execNop s
  | .midiActiveSensing => Sys2Proof.Machine.execMidiActiveSensing s
  | .midiBadLength => Sys2Proof.Machine.execMidiBadLength s
  | .midiNoteOn b1 b2 => Sys2Proof.Machine.execMidiNoteOn b1 b2 s
  | .midiNoteOnVel0 b1 => Sys2Proof.Machine.execMidiNoteOnVel0 b1 s
  | .midiNoteOff b1 b2 => Sys2Proof.Machine.execMidiNoteOff b1 b2 s
  | .midiOther => Sys2Proof.Machine.execMidiOther s
  | .paramOscLevel v => Sys2Proof.Machine.execParamOscLevel v s
  | .paramOscType v => Sys2Proof.Machine.execParamOscType v s
  | .paramOscFrequency v => Sys2Proof.Machine.execParamOscFrequency v s
  | .paramSubLevel v => Sys2Proof.Machine.execParamSubLevel v s
  | .paramSubType v => Sys2Proof.Machine.execParamSubType v s
  | .paramSubFrequency v => Sys2Proof.Machine.execParamSubFrequency v s
  | .paramFilterCutoff v => Sys2Proof.Machine.execParamFilterCutoff v s
  | .paramFilterResonance v => Sys2Proof.Machine.execParamFilterResonance v s
  | .paramFilterType v => Sys2Proof.Machine.execParamFilterType v s
  | .paramEnvAttack v => Sys2Proof.Machine.execParamEnvAttack v s
  | .paramEnvDecay v => Sys2Proof.Machine.execParamEnvDecay v s
  | .paramEnvSustain v => Sys2Proof.Machine.execParamEnvSustain v s
  | .paramEnvRelease v => Sys2Proof.Machine.execParamEnvRelease v s
  | .paramLfoLevel v => Sys2Proof.Machine.execParamLfoLevel v s
  | .paramLfoFrequency v => Sys2Proof.Machine.execParamLfoFrequency v s
  | .paramUnknownDest => Sys2Proof.Machine.execParamUnknownDest s
  | .paramUnknownParam => Sys2Proof.Machine.execParamUnknownParam s
  | .reservedKind => Sys2Proof.Machine.execReservedKind s

end Sys2Proof.Machine
end

