-- ==== Sys2Proof/Machine/Flags.lean ====
section
/-! DEFINITION. The engine's one flag, OVF (R43), and the push that sets it (R82, R83). No command
reads or writes a flag, and there are no condition codes and no floating-point status flags (R43,
R381). -/

namespace Sys2Proof.Machine

/-- OVF after a push: set when the FIFO is full, and sticky (R43, R83). A FIFO longer than FIFO_DEPTH,
which no run reaches, counts as full (log 19). -/
def ovfAfterPush (s : State) : Bool := s.ovf || decide (s.cfg.fifoDepth ≤ s.fifo.length)

/-- The FIFO after a push: the word at the tail, or dropped when the FIFO is full (R82, R83). -/
def fifoAfterPush (w : CommandWord) (s : State) : List CommandWord :=
  if s.fifo.length < s.cfg.fifoDepth then s.fifo ++ [w] else s.fifo

/-- The host pushes a command word (R82, R83). -/
def State.pushWord (w : CommandWord) (s : State) : State :=
  (s.setFifo (fifoAfterPush w s)).setOvf (ovfAfterPush s)

end Sys2Proof.Machine
end

