-- ==== Sys2Proof/Machine/Status.lean ====
section
/-! DEFINITION. The read-only status window (R48, R49, R86): FIFO_STATUS is live, every other index
shows the snapshot or the configuration. -/

namespace Sys2Proof.Machine

/-- An integer of any size in a 64-bit register (R48); free where it does not fit (log 11). -/
def field64 (n : Nat) : BitVec 64 := if n < 2 ^ 64 then BitVec.ofNat 64 n else Config.wideField n

/-- An integer of any size in a 32-bit field; free where it does not fit (log 11). -/
def field32 (n : Nat) : BitVec 32 :=
  if n < 2 ^ 32 then BitVec.ofNat 32 n else (Config.wideField n).setWidth 32

/-- ENV_STATUS (R49): ENV.R, ENV.S, ENV.D, ENV.A, ENV.NSEG, ENV.MODE, ENV_STAGE from the top. -/
def envStatus (e : Env) (stage : EnvStage) : BitVec 64 :=
  0#25 ++ e.r ++ 0#1 ++ e.s ++ 0#1 ++ e.d ++ 0#1 ++ e.a ++
    BitVec.ofNat 2 e.nseg.val ++ BitVec.ofNat 2 e.mode.code ++ 0#1 ++ BitVec.ofNat 3 stage.code

/-- FIFO_STATUS (R48): the entry count in bits [31:0] and OVF in bit 32, as they are now. -/
def State.fifoStatus (s : State) : BitVec 64 :=
  0#31 ++ BitVec.ofBool s.ovf ++ field32 s.fifo.length

/-- CFG_OCTAVES (R48): each octave as 8-bit two's complement. -/
def octaveStatus (c : Config) : BitVec 64 :=
  0#48 ++ BitVec.ofInt 8 c.subOctave ++ BitVec.ofInt 8 c.oscOctave

/-- The registers at indices 0x00 to 0x0A (R48). -/
def State.statusLow (s : State) : Nat → BitVec 64
  | 0x00 => s.snapshot.regs.sampleCount
  | 0x01 => s.snapshot.regs.noteActive.extractLsb' 0 64
  | 0x02 => s.snapshot.regs.noteActive.extractLsb' 64 64
  | 0x03 => s.snapshot.regs.noteLast.setWidth 64
  | 0x04 => envStatus s.snapshot.regs.env s.snapshot.stage
  | 0x05 => s.snapshot.gain.bits
  | 0x06 => s.fifoStatus
  | 0x07 => s.cfg.fsF.bits
  | 0x08 => field64 s.cfg.block
  | 0x09 => field64 s.cfg.fifoDepth
  | 0x0A => octaveStatus s.cfg
  | _ => 0

/-- The four status registers of an oscillator (R48). -/
def oscStatus (o : Osc) : Nat → BitVec 64
  | 0 => BitVec.ofNat 64 o.kind.code
  | 1 => o.level.bits
  | 2 => o.freq.bits
  | 3 => o.phase.bits
  | _ => 0

/-- The four status registers of the LFO (R48). -/
def lfoStatus (o : Lfo) : Nat → BitVec 64
  | 0 => BitVec.ofNat 64 o.kind.code
  | 1 => o.level.bits
  | 2 => o.freq.bits
  | 3 => o.phase.bits
  | _ => 0

/-- The status registers of the filter from index 0x28 (R48). -/
def fltStatus (f : Flt) : Nat → BitVec 64
  | 0 => BitVec.ofNat 64 f.type.code
  | 1 => f.cutoff.bits
  | 2 => f.q.bits
  | 3 => f.b0.bits
  | 4 => f.b1.bits
  | 5 => f.b2.bits
  | 6 => f.a1.bits
  | 7 => f.a2.bits
  | 8 => f.x1.bits
  | 9 => f.x2.bits
  | 10 => f.y1.bits
  | 11 => f.y2.bits
  | _ => 0

/-- The status registers of the envelope from index 0x38 (R48). -/
def envWindow (e : Env) : Nat → BitVec 64
  | 0 => e.peak.bits
  | 1 => e.v0.bits
  | 2 => e.seg0Tgt.bits
  | 3 => e.seg0Len
  | 4 => e.seg1Tgt.bits
  | 5 => e.seg1Len
  | 6 => e.k
  | _ => 0

/-- The status register at an index of the window; an index not named reads 0 (R48, R86). -/
def State.statusAt (s : State) (i : Nat) : BitVec 64 :=
  if i < 0x10 then s.statusLow i
  else if i < 0x18 then oscStatus s.snapshot.regs.osc (i - 0x10)
  else if i < 0x20 then oscStatus s.snapshot.regs.sub (i - 0x18)
  else if i < 0x28 then lfoStatus s.snapshot.regs.lfo (i - 0x20)
  else if i < 0x38 then fltStatus s.snapshot.regs.flt (i - 0x28)
  else envWindow s.snapshot.regs.env (i - 0x38)

/-- A status read: there is no index above 0x3F (R86). -/
def State.statusRead (s : State) (i : Nat) : Option (BitVec 64) :=
  if i ≤ 0x3F then some (s.statusAt i) else none

end Sys2Proof.Machine
end

