-- ==== Sys2Proof/Machine/Sequencer.lean ====
section
/-! DEFINITION. The order of work: the engine's own steps inside a block step (R264, log 12), the acts
of the host between them (R6, R90, log 13), and the block step as one function. -/

namespace Sys2Proof.Machine

/-! ### The engine (R264) -/

/-- One step of the engine by itself: take the batch; apply one command of it; end the batch; tick;
publish the snapshot. The order is R264's. -/
def engineStep (s : State) : StepResult :=
  match s.seq with
  | .boundary => .next s.takeBatch
  | .applying [] => .next (s.setSeq (.ticking s.cfg.block))
  | .applying (w :: ws) => exec (decode w) (s.setSeq (.applying ws))
  | .ticking 0 => .next s.publish
  | .ticking (n + 1) => .next (s.tick.setSeq (.ticking n))

/-! ### The host (R6, R125) -/

/-- The rest of the host's script. -/
def State.setScript (s : State) (script : List HostAction) : State :=
  s.setOutside { s.outside with script := script }

/-- A status value reaches the host (R48). -/
def State.recordRead (s : State) (v : BitVec 64) : State :=
  s.setOutside { s.outside with reads := s.outside.reads ++ [v] }

/-- A status register reaches the host as bytes (R85). -/
def State.recordReadBytes (s : State) (v : BitVec 64) : State :=
  s.setOutside { s.outside with readBytes := s.outside.readBytes ++ bytesOfStatus v }

/-- Reset: a new engine for a legal configuration; what is outside stays outside (R410, log 20). A
reset does not overlap a block step (R411). -/
def State.resetTo (cfg : Config) (s : State) : StepResult :=
  if s.seq ≠ .boundary then .refused .resetInsideBlock
  else if cfg.legal then .next ((State.resetWith cfg).setOutside s.outside)
  else .refused (.illegalConfig cfg)

/-- The script after an engine step of `run (n + 1)`: one block step less once the engine is back at a
boundary (R125). -/
def runRest (n : Nat) (rest : List HostAction) (s : State) : List HostAction :=
  if s.seq = .boundary then .run n :: rest else .run (n + 1) :: rest

/-- One act of the host, `rest` of the script still to come. -/
def hostStep (a : HostAction) (rest : List HostAction) (s : State) : StepResult :=
  match a with
  | .push w => .next ((s.setScript rest).pushWord w)
  | .pushBytes bytes =>
    match wordOfBytes bytes with
    | .ok w => .next ((s.setScript rest).pushWord w)
    | .error (.notOneWord n) => .refused (.partialWord n)
  | .readStatus i =>
    match s.statusRead i with
    | some v => .next ((s.setScript rest).recordRead v)
    | none => .refused (.statusIndexAbove3F i)
  | .readStatusBytes i =>
    match s.statusRead i with
    | some v => .next ((s.setScript rest).recordReadBytes v)
    | none => .refused (.statusIndexAbove3F i)
  | .reset cfg => (s.setScript rest).resetTo cfg
  | .elapse => engineStep (s.setScript rest)
  | .run 0 => .next (s.setScript rest)
  | .run (n + 1) =>
    match engineStep (s.setScript rest) with
    | .next t => .next (t.setScript (runRest n rest t))
    | .fault e => .fault e
    | .refused r => .refused r

/-- One step of the machine: the host's next act, or, with none left, the audio callback goes on and
the engine takes its next step (R6, R413, log 13). -/
def machineStep (s : State) : StepResult :=
  match s.outside.script with
  | [] => engineStep s
  | a :: rest => hostStep a rest s

/-! ### The block step as one function (R264) -/

/-- The commands of a batch, applied in order; a command that stopped would end the batch. -/
def applyBatch : List CommandWord → State → StepResult
  | [], s => .next s
  | w :: ws, s =>
    match exec (decode w) s with
    | .next t => applyBatch ws t
    | .fault e => .fault e
    | .refused r => .refused r

/-- So many ticks. -/
def State.ticks : Nat → State → State
  | 0, s => s
  | n + 1, s => s.tick.ticks n

/-- `block_step()` of R264 from a block boundary to the next. -/
def State.blockStep (s : State) : StepResult :=
  match applyBatch s.fifo (s.setFifo []) with
  | .next t => .next (t.ticks t.cfg.block).publish
  | .fault e => .fault e
  | .refused r => .refused r

/-! ### Where the next command is taken from -/

/-- A state whose very next step applies the command word `w`: the host has no act before it, and `w`
is the batch being applied (log 16). -/
def State.withCommand (s : State) (w : CommandWord) : State :=
  (s.setScript []).setSeq (.applying [w])

end Sys2Proof.Machine
end

