-- ==== Sys2Proof/Machine/Step.lean ====
section
/-! DEFINITION. The step of the machine, and where a command must stand for the next step to apply
it. -/

namespace Sys2Proof.Machine

/-- One step: an act of the host or a step of the engine (Machine/Sequencer.lean). -/
def step (s : State) : Host.Outcome State Fault Refusal := machineStep s

/-- `s` with the command word whose low `nbits` bits are those of `w`, every other bit 0, as the batch
being applied, so that the next step applies it (log 16). -/
def State.withFetchWord (s : State) (nbits w : Nat) : State :=
  s.withCommand (BitVec.ofNat 128 (w % 2 ^ nbits))

end Sys2Proof.Machine
end

