-- ==== Sys2Proof/Machine/Assembler.lean ====
section
/-! DEFINITION. The assembly syntax (R125), its pseudo-instructions (R126) and the host directives, as
functions from lines of text to the host's actions. Nothing of the machine depends on this file. -/

namespace Sys2Proof.Machine

/-! ### Lines -/

/-- A destination name (R115). -/
inductive Dest where
  | oscillator | subOscillator | filter | envelope | lfo
  deriving DecidableEq, Repr

/-- A parameter name (R116). -/
inductive ParamName where
  | level | type | frequency | cutoff | resonance | attack | decay | sustain | release
  deriving DecidableEq, Repr

/-- The code of a destination (R115). -/
def Dest.code : Dest → BitVec 4
  | .oscillator => 0 | .subOscillator => 1 | .filter => 2 | .envelope => 3 | .lfo => 4

/-- The code of a parameter name (R116). -/
def ParamName.code : ParamName → BitVec 8
  | .level => 0 | .type => 1 | .frequency => 2 | .cutoff => 3 | .resonance => 4
  | .attack => 5 | .decay => 6 | .sustain => 7 | .release => 8

/-- A VALUE as written (R125): a decimal literal `mant × 10^exp`, a raw pattern, `nan` or `inf`. -/
inductive AsmValue where
  | decimal (neg : Bool) (mant : Nat) (exp : Int)
  | bits (pattern : BitVec 64)
  | nan
  | inf
  deriving DecidableEq, Repr

/-- The binary64 of a written VALUE (R125): a decimal rounds to nearest; `nan` is the pattern of R127. -/
def AsmValue.toF64 : AsmValue → F64
  | .decimal neg mant exp =>
    if 0 ≤ exp then F64.ofRat neg (mant * 10 ^ exp.toNat) 1
    else F64.ofRat neg mant (10 ^ (-exp).toNat)
  | .bits pattern => ⟨pattern⟩
  | .nan => ⟨0x7FF8000000000000⟩
  | .inf => ⟨0x7FF0000000000000⟩

/-- A line: a command, a pseudo-instruction or a host directive (R125, R126). -/
inductive AsmLine where
  | nop
  | midi (b0 b1 b2 : Byte)
  | midiLen (len : BitVec 4) (b0 : Byte) (b1 b2 : Option Byte)
  | param (dest : Dest) (name : ParamName) (value : AsmValue)
  | paramRaw (dest : BitVec 4) (par : BitVec 8) (value : AsmValue)
  | reserved (kind : BitVec 4)
  | noteon (note vel : Byte)
  | noteoff (note : Byte)
  | sense
  | wave (dest : Dest) (kind : Waveform)
  | ftype (kind : FilterType)
  | adsr (a d s r : AsmValue)
  | run (blocks : Nat)
  | reset
  deriving DecidableEq, Repr

/-- A whole number as a written VALUE. -/
def AsmValue.ofNat (n : Nat) : AsmValue := .decimal false n 0

/-- The words of a line (R125, R126); a directive has none. -/
def AsmLine.words : AsmLine → List CommandWord
  | .nop => [kindWord 0]
  | .midi b0 b1 b2 => [midiWord 3 b0 b1 b2]
  | .midiLen len b0 b1 b2 => [midiWord len b0 (b1.getD 0) (b2.getD 0)]
  | .param dest name value => [paramWord dest.code name.code value.toF64]
  | .paramRaw dest par value => [paramWord dest par value.toF64]
  | .reserved kind => [kindWord kind]
  | .noteon note vel => [midiWord 3 0x90 note vel]
  | .noteoff note => [midiWord 3 0x80 note 0]
  | .sense => [midiWord 1 0xFE 0 0]
  | .wave dest kind => [paramWord dest.code ParamName.type.code (AsmValue.ofNat kind.code).toF64]
  | .ftype kind => [paramWord Dest.filter.code ParamName.type.code (AsmValue.ofNat kind.code).toF64]
  | .adsr a d s r =>
    [paramWord Dest.envelope.code ParamName.attack.code a.toF64,
     paramWord Dest.envelope.code ParamName.decay.code d.toF64,
     paramWord Dest.envelope.code ParamName.sustain.code s.toF64,
     paramWord Dest.envelope.code ParamName.release.code r.toF64]
  | .run _ | .reset => []

/-- The host's actions for a line: a push for each word, or the directive (R125). -/
def AsmLine.actions (c : Config) : AsmLine → List HostAction
  | .run blocks => [.run blocks]
  | .reset => [.reset c]
  | line => line.words.map .push

/-! ### Text -/

/-- A line without its comment (R125). -/
def stripComment (line : List Char) : List Char := line.takeWhile (· ≠ ';')

/-- A character between fields. -/
def isSeparator (c : Char) : Bool := c == ' ' || c == ',' || c == '\t'

/-- One character put in front of a list of fields. -/
def consField (c : Char) (fields : List (List Char)) : List (List Char) :=
  if isSeparator c then [] :: fields
  else
    match fields with
    | [] => [[c]]
    | f :: rest => (c :: f) :: rest

/-- The fields of a line. -/
def fieldsOf (line : List Char) : List (List Char) :=
  ((stripComment line).foldr consField [[]]).filter (· ≠ [])

/-- The value of a digit, hexadecimal digits included. -/
def digitValue (c : Char) : Option Nat :=
  if '0' ≤ c ∧ c ≤ '9' then some (c.toNat - '0'.toNat)
  else if 'a' ≤ c ∧ c ≤ 'f' then some (c.toNat - 'a'.toNat + 10)
  else if 'A' ≤ c ∧ c ≤ 'F' then some (c.toNat - 'A'.toNat + 10)
  else none

/-- One more digit of a number in a base. -/
def addDigit (base : Nat) (acc : Option Nat) (c : Char) : Option Nat :=
  match acc, digitValue c with
  | some n, some d => if d < base then some (n * base + d) else none
  | _, _ => none

/-- A number in a base; at least one digit. -/
def parseDigits (base : Nat) (cs : List Char) : Option Nat :=
  if cs = [] then none else cs.foldl (addDigit base) (some 0)

/-- A number: decimal, or hexadecimal with 0x (R125). -/
def parseNumber : List Char → Option Nat
  | '0' :: 'x' :: ds => parseDigits 16 ds
  | ds => parseDigits 10 ds

/-- A number below a bound. -/
def parseBelow (bound : Nat) (cs : List Char) : Option Nat :=
  (parseNumber cs).bind fun n => if n < bound then some n else none

/-- A byte. -/
def parseByte (cs : List Char) : Option Byte := (parseBelow 256 cs).map (BitVec.ofNat 8)

/-- A field split at the first of some characters: what stands before it and what after it. -/
def splitAtFirst (p : Char → Bool) (cs : List Char) : List Char × Option (List Char) :=
  match cs.dropWhile fun c => !p c with
  | [] => (cs, none)
  | _ :: rest => (cs.takeWhile fun c => !p c, some rest)

/-- A signed decimal exponent. -/
def parseExponent : List Char → Option Int
  | '-' :: ds => (parseDigits 10 ds).map fun n => -(n : Int)
  | '+' :: ds => (parseDigits 10 ds).map fun n => (n : Int)
  | ds => (parseDigits 10 ds).map fun n => (n : Int)

/-- An unsigned decimal literal: digits, a fraction and an exponent. -/
def parseUnsigned (neg : Bool) (cs : List Char) : Option AsmValue :=
  match splitAtFirst (fun c => c == 'e' || c == 'E') cs with
  | (mantissa, expText) =>
    match splitAtFirst (fun c => c == '.') mantissa with
    | (whole, fracText) =>
      match parseDigits 10 (whole ++ fracText.getD []),
        (match expText with | none => some 0 | some t => parseExponent t) with
      | some m, some e => some (.decimal neg m (e - (fracText.getD []).length))
      | _, _ => none

/-- The number inside `bits(...)`. -/
def parseBits (cs : List Char) : Option AsmValue :=
  if cs.take 5 = ['b', 'i', 't', 's', '('] ∧ cs.getLast? = some ')' then
    (parseBelow (2 ^ 64) ((cs.drop 5).dropLast)).map fun n => .bits (BitVec.ofNat 64 n)
  else none

/-- A VALUE (R125). -/
def parseValue (cs : List Char) : Option AsmValue :=
  if cs = ['n', 'a', 'n'] then some .nan
  else if cs = ['i', 'n', 'f'] then some .inf
  else
    match parseBits cs with
    | some v => some v
    | none =>
      match cs with
      | '-' :: rest => parseUnsigned true rest
      | rest =>
        match rest with
        | '0' :: 'x' :: _ => (parseNumber rest).map AsmValue.ofNat
        | _ => parseUnsigned false rest

/-- A destination name. -/
def parseDest (cs : List Char) : Option Dest :=
  match String.ofList cs with
  | "oscillator" => some .oscillator
  | "subOscillator" => some .subOscillator
  | "filter" => some .filter
  | "envelope" => some .envelope
  | "lfo" => some .lfo
  | _ => none

/-- A parameter name. -/
def parseParamName (cs : List Char) : Option ParamName :=
  match String.ofList cs with
  | "level" => some .level
  | "type" => some .type
  | "frequency" => some .frequency
  | "cutoff" => some .cutoff
  | "resonance" => some .resonance
  | "attack" => some .attack
  | "decay" => some .decay
  | "sustain" => some .sustain
  | "release" => some .release
  | _ => none

/-- A waveform name (R126). -/
def parseWaveform (cs : List Char) : Option Waveform :=
  match String.ofList cs with
  | "sine" => some .sine
  | "square" => some .square
  | "sawtooth" => some .sawtooth
  | "triangle" => some .triangle
  | _ => none

/-- A filter type name (R126). -/
def parseFilterType (cs : List Char) : Option FilterType :=
  match String.ofList cs with
  | "lowpass" => some .lowpass
  | "highpass" => some .highpass
  | "bandpass" => some .bandpass
  | "notch" => some .notch
  | "allpass" => some .allpass
  | _ => none

/-- `DEST.NAME`. -/
def parseTarget (cs : List Char) : Option (Dest × ParamName) :=
  match splitAtFirst (fun c => c == '.') cs with
  | (d, some n) =>
    match parseDest d, parseParamName n with
    | some dest, some name => some (dest, name)
    | _, _ => none
  | (_, none) => none

/-- A `midi.len` line: the bytes not written are 0 (R125). -/
def parseMidiLen (len : List Char) (rest : List (List Char)) : Option AsmLine :=
  match parseBelow 16 len, rest.mapM parseByte with
  | some l, some [b0] => some (.midiLen (BitVec.ofNat 4 l) b0 none none)
  | some l, some [b0, b1] => some (.midiLen (BitVec.ofNat 4 l) b0 (some b1) none)
  | some l, some [b0, b1, b2] => some (.midiLen (BitVec.ofNat 4 l) b0 (some b1) (some b2))
  | _, _ => none

/-- The line of a name and its fields (R125, R126). -/
def parseNamed (name : List Char) (args : List (List Char)) : Option AsmLine :=
  match String.ofList name, args with
  | "nop", [] => some .nop
  | "sense", [] => some .sense
  | "reset", [] => some .reset
  | "run", [n] => (parseNumber n).map .run
  | "midi", [b0, b1, b2] =>
    match parseByte b0, parseByte b1, parseByte b2 with
    | some x, some y, some z => some (.midi x y z)
    | _, _, _ => none
  | "midi.len", len :: rest => parseMidiLen len rest
  | "param", [target, value] =>
    match parseTarget target, parseValue value with
    | some (d, n), some v => some (.param d n v)
    | _, _ => none
  | "param.raw", [d, p, value] =>
    match parseBelow 16 d, parseBelow 256 p, parseValue value with
    | some x, some y, some v => some (.paramRaw (BitVec.ofNat 4 x) (BitVec.ofNat 8 y) v)
    | _, _, _ => none
  | "reserved", [k] =>
    (parseBelow 16 k).bind fun n => if 3 ≤ n then some (.reserved (BitVec.ofNat 4 n)) else none
  | "noteon", [n, v] =>
    match parseByte n, parseByte v with
    | some x, some y => some (.noteon x y)
    | _, _ => none
  | "noteoff", [n] => (parseByte n).map .noteoff
  | "wave", [d, k] =>
    match parseDest d, parseWaveform k with
    | some .oscillator, some w => some (.wave .oscillator w)
    | some .subOscillator, some w => some (.wave .subOscillator w)
    | _, _ => none
  | "ftype", [k] => (parseFilterType k).map .ftype
  | "adsr", [a, d, s, r] =>
    match parseValue a, parseValue d, parseValue s, parseValue r with
    | some x, some y, some z, some w => some (.adsr x y z w)
    | _, _, _, _ => none
  | _, _ => none

/-- A line of text: no command on an empty or comment line; none where it is not of the syntax. -/
def parseLine (line : List Char) : Option (List AsmLine) :=
  match fieldsOf line with
  | [] => some []
  | name :: args => (parseNamed name args).map fun l => [l]

/-- The host's script for a program text, one line each (R125). -/
def assemble (c : Config) (lines : List String) : Option (List HostAction) :=
  (lines.mapM fun l => parseLine l.toList).map fun parsed => parsed.flatten.flatMap (AsmLine.actions c)

/-- The command words of a program text, directives left out. -/
def assembleWords (lines : List String) : Option (List CommandWord) :=
  (lines.mapM fun l => parseLine l.toList).map fun parsed => parsed.flatten.flatMap AsmLine.words

end Sys2Proof.Machine
end

