-- ==== Sys2Proof/Machine/ErrorClass.lean ====
section
/-! DEFINITION. The error classes of R381: names for what a command or a push is, recorded nowhere. The
engine handles each in place; nothing of the machine reads this file. -/

namespace Sys2Proof.Machine

/-- A class of R381; its code is the number in its name there. -/
inductive ErrorClass where
  /-- E0, PARAM with a destination above 4. -/
  | unknownDest
  /-- E1, PARAM with a pair not in R117. -/
  | unknownParam
  /-- E2, a VALUE that is NaN or infinite. -/
  | nonfiniteValue
  /-- E3, a type VALUE that is not an exact code. -/
  | badCode
  /-- E4, a numeric VALUE outside its range. -/
  | outOfRange
  /-- E5, a MIDI length other than 3. -/
  | badLength
  /-- E6, a MIDI data byte above 127. -/
  | dataRange
  /-- E7, another MIDI status. -/
  | unhandledStatus
  /-- E8, active sensing. -/
  | activeSensing
  /-- E9, a reserved KIND. -/
  | reservedKind
  /-- E10, a push at a full FIFO. -/
  | fifoFull
  /-- E11, a note-off for a note that is not held. -/
  | noteNotHeld
  deriving DecidableEq, Repr

/-- The code of a class: E0 to E11 (R381). -/
def ErrorClass.code : ErrorClass → Nat
  | .unknownDest => 0 | .unknownParam => 1 | .nonfiniteValue => 2 | .badCode => 3
  | .outOfRange => 4 | .badLength => 5 | .dataRange => 6 | .unhandledStatus => 7
  | .activeSensing => 8 | .reservedKind => 9 | .fifoFull => 10 | .noteNotHeld => 11

/-- A class where a condition holds. -/
def classWhen (b : Bool) (e : ErrorClass) : List ErrorClass := if b then [e] else []

/-- The classes of a numeric VALUE with its range (E2, E4). -/
def rangeClasses (v lo hi : F64) : List ErrorClass :=
  if v.finite then classWhen (F64.lt v lo || F64.lt hi v) .outOfRange else [.nonfiniteValue]

/-- The classes of a type VALUE with `k` codes (E2, E3). -/
def codeClasses (k : Nat) (v : F64) : List ErrorClass :=
  if v.finite then classWhen (codeOf k v).isNone .badCode else [.nonfiniteValue]

/-- The class of a data byte (E6). -/
def dataClasses (b : Byte) : List ErrorClass := classWhen (decide (127 < b.toNat)) .dataRange

/-- The class of a note-off (E11). -/
def heldClasses (s : State) (b1 : Byte) : List ErrorClass :=
  classWhen (!s.noteActive.getLsbD (clampData b1).toNat) .noteNotHeld

/-- The classes of a command in a state (R381). -/
def errorClasses (s : State) : Instr → List ErrorClass
  | .nop => []
  | .midiActiveSensing => [.activeSensing]
  | .midiBadLength => [.badLength]
  | .midiNoteOn b1 b2 => dataClasses b1 ++ dataClasses b2
  | .midiNoteOnVel0 b1 => dataClasses b1 ++ heldClasses s b1
  | .midiNoteOff b1 b2 => dataClasses b1 ++ dataClasses b2 ++ heldClasses s b1
  | .midiOther => [.unhandledStatus]
  | .paramOscLevel v => rangeClasses v F64.zero f127
  | .paramOscType v => codeClasses 4 v
  | .paramOscFrequency v => rangeClasses v s.cfg.halfFs.neg s.cfg.halfFs
  | .paramSubLevel v => rangeClasses v F64.zero f127
  | .paramSubType v => codeClasses 4 v
  | .paramSubFrequency v => rangeClasses v s.cfg.halfFs.neg s.cfg.halfFs
  | .paramFilterCutoff v => rangeClasses v cutoffMin s.cfg.cutoffMax
  | .paramFilterResonance v => rangeClasses v qMin qMax
  | .paramFilterType v => codeClasses 5 v
  | .paramEnvAttack v => rangeClasses v F64.zero f127
  | .paramEnvDecay v => rangeClasses v F64.zero f127
  | .paramEnvSustain v => rangeClasses v F64.zero f127
  | .paramEnvRelease v => rangeClasses v F64.zero f127
  | .paramLfoLevel v => rangeClasses v s.cfg.halfFs.neg s.cfg.halfFs
  | .paramLfoFrequency v => rangeClasses v s.cfg.halfFs.neg s.cfg.halfFs
  | .paramUnknownDest => [.unknownDest]
  | .paramUnknownParam => [.unknownParam]
  | .reservedKind => [.reservedKind]

/-- The classes of a push in a state (E10). -/
def pushClasses (s : State) : List ErrorClass :=
  classWhen (decide (s.cfg.fifoDepth ≤ s.fifo.length)) .fifoFull

/-- The classes whose handling is "ignored" (R381). -/
def ErrorClass.ignored : ErrorClass → Bool
  | .unknownDest | .unknownParam | .nonfiniteValue | .badCode | .badLength | .unhandledStatus
  | .activeSensing | .reservedKind => true
  | .outOfRange | .dataRange | .fifoFull | .noteNotHeld => false

end Sys2Proof.Machine
end

