-- ==== Sys2Proof/Safety.lean ====
section
/-! DEFINITION. What claims speak of: the invariants of R50 and the bounds of the rules they rest on, as
predicates on any state, and the relation of two states that sound alike. -/

namespace Sys2Proof.Machine

/-- A value is a number between two bounds, both included. -/
def within (lo hi x : F64) : Bool := F64.le lo x && F64.le x hi

/-- A phase is in [0.0, 1.0) (R33, R158). -/
def phaseOk (p : F64) : Bool := F64.le F64.zero p && F64.lt p F64.one

/-- How ENV.NSEG goes with ENV.MODE (R50). -/
def segmentsMatchMode (e : Env) : Prop :=
  (e.mode = .idle → e.nseg = 0) ∧ (e.mode = .off → e.nseg = 1) ∧
  (e.mode = .on → e.nseg = 1 ∨ e.nseg = 2)

/-- The invariants of the registers, the FIFO and the block step that need no arithmetic. -/
structure State.Inv (s : State) : Prop where
  /-- The configuration is legal (R7 to R10, R410). -/
  cfgLegal : s.cfg.legal = true
  /-- OSC.OCT and SUB.OCT hold the configuration's octaves (R10, R33, R34). -/
  octaves : s.osc.oct = s.cfg.oscOctave ∧ s.sub.oct = s.cfg.subOctave
  /-- The FIFO holds at most FIFO_DEPTH words (R45). -/
  fifoFits : s.fifo.length ≤ s.cfg.fifoDepth
  /-- A batch has at most FIFO_DEPTH words (R84). -/
  batchFits : ∀ batch, s.seq = .applying batch → batch.length ≤ s.cfg.fifoDepth
  /-- A block has at most BLOCK ticks to come (R264). -/
  ticksFit : ∀ n, s.seq = .ticking n → n ≤ s.cfg.block
  /-- The coefficient registers are the function of the filter parameters (R37, R50). -/
  coefficients : s.flt = s.flt.recompute s.cfg
  /-- ENV.NSEG goes with ENV.MODE (R50). -/
  segments : segmentsMatchMode s.env

/-- The registers that a command clamps are in their legal ranges (R33 to R36, R349). -/
structure State.ParamsInRange (s : State) : Prop where
  oscLevel : within F64.zero F64.one s.osc.level = true
  subLevel : within F64.zero F64.one s.sub.level = true
  lfoLevel : within s.cfg.halfFs.neg s.cfg.halfFs s.lfo.level = true
  lfoFreq : within s.cfg.halfFs.neg s.cfg.halfFs s.lfo.freq = true
  cutoff : within cutoffMin s.cfg.cutoffMax s.flt.cutoff = true
  resonance : within qMin qMax s.flt.q = true

/-- The bound of R162 on a base frequency: max(FS/2, noteToFrequency(127, 0)). -/
def freqLimit (c : Config) : F64 := F64.max c.halfFs (noteToFrequency 127 0)

/-- Both base frequencies are within the bound of R162. -/
structure State.FreqsInRange (s : State) : Prop where
  osc : within (freqLimit s.cfg).neg (freqLimit s.cfg) s.osc.freq = true
  sub : within (freqLimit s.cfg).neg (freqLimit s.cfg) s.sub.freq = true

/-- The three phases are in [0.0, 1.0) (R50, R158). -/
structure State.PhasesInRange (s : State) : Prop where
  osc : phaseOk s.osc.phase = true
  sub : phaseOk s.sub.phase = true
  lfo : phaseOk s.lfo.phase = true

/-- The envelope's schedule is in its legal ranges (R39, R204). The target of a segment that the
schedule does not use is left out: it holds whatever was last written (R39). -/
structure EnvInRange (e : Env) : Prop where
  peak : within F64.zero F64.one e.peak = true
  start : within F64.zero e.peak e.v0 = true
  targets : ∀ p ∈ e.segments, within F64.zero e.peak p.1 = true

/-- The segment lengths are in [0, 5 × FS] (R39). -/
def segmentLengthsOk (c : Config) (e : Env) : Prop :=
  e.seg0Len.toNat ≤ 5 * c.fs ∧ e.seg1Len.toNat ≤ 5 * c.fs

/-- The pairs of R117. -/
def recognisedPairs : List (BitVec 4 × BitVec 8) :=
  [(0, 0), (0, 1), (0, 2), (1, 0), (1, 1), (1, 2), (2, 1), (2, 3), (2, 4),
   (3, 5), (3, 6), (3, 7), (3, 8), (4, 0), (4, 2)]

/-- The fifteen parameter commands on a VALUE (R333 to R347). -/
def paramCommands (v : F64) : List Instr :=
  [.paramOscLevel v, .paramOscType v, .paramOscFrequency v,
   .paramSubLevel v, .paramSubType v, .paramSubFrequency v,
   .paramFilterCutoff v, .paramFilterResonance v, .paramFilterType v,
   .paramEnvAttack v, .paramEnvDecay v, .paramEnvSustain v, .paramEnvRelease v,
   .paramLfoLevel v, .paramLfoFrequency v]

/-- The commands that change no state (R123). -/
def ignoredCommands : List Instr :=
  [.nop, .midiActiveSensing, .midiBadLength, .midiOther, .paramUnknownDest, .paramUnknownParam,
   .reservedKind]

/-- The sanitised form of a finite VALUE (R330). -/
def positiveZero (v : F64) : F64 := if v.isZero then F64.zero else v

/-- Two states that differ at most in NOTE.LAST, OVF and the status snapshot. -/
def State.SoundsLike (s t : State) : Prop :=
  t = { s with noteLast := t.noteLast, ovf := t.ovf, snapshot := t.snapshot }

/-- The host's next act, if any, is not a reset. -/
def State.noResetNext (s : State) : Prop := ∀ c rest, s.outside.script ≠ .reset c :: rest

/-- The host's next act, if any, is inside the engine's interface: a push (R82, R83), the sixteen
bytes of a word (R81, R85), a status read of an index up to 0x3F (R86), a reset with a legal
configuration at a block boundary (R410, R411), or letting the engine run (R125). -/
def State.actAllowed (s : State) : Bool :=
  match s.outside.script with
  | [] => true
  | .push _ :: _ => true
  | .pushBytes bytes :: _ => decide (bytes.length = 16)
  | .readStatus i :: _ => decide (i ≤ 0x3F)
  | .readStatusBytes i :: _ => decide (i ≤ 0x3F)
  | .reset cfg :: _ => decide (s.seq = .boundary) && cfg.legal
  | .elapse :: _ => true
  | .run _ :: _ => true

/-- Two lists of values are equal one by one, as values (R18). -/
def sameValues (xs ys : List F64) : Bool :=
  decide (xs.length = ys.length) && (List.zipWith F64.eq xs ys).all id

end Sys2Proof.Machine
end

