-- ==== Sys2Proof/Certificates/Slice0/Obligations.lean ====
section
/-! DEFINITION. The statements for the provers. Each docstring says what of the spec the statement
formalises; OBLIGATIONS.json lists them with their rules. -/

open Sys2Proof Sys2Proof.Machine

/-- For every well-formed command, with every operand value, decode (encode i) = i. (R113, R114,
R121, R122) -/
def Obligations.DecodeOfEncodeIsIdentity : Prop :=
  ∀ i : Instr, i.wellFormed = true → decode (encode i) = i

/-- The decoder is total and every one of the 2^128 words decodes to a command that the encoding can
carry. (R121) -/
def Obligations.DecodedCommandsAreWellFormed : Prop :=
  ∀ w : CommandWord, (decode w).wellFormed = true

/-- If two words have the same KIND, and for MIDI the same bits [123:96], and for PARAM the same
bits [123:112] and [63:0], they decode to the same command. (R121, R112, R113, R114) -/
def Obligations.DecoderReadsOnlyNamedFields : Prop :=
  ∀ w v : CommandWord, w.extractLsb' 124 4 = v.extractLsb' 124 4 →
    (w.extractLsb' 124 4 = 1#4 → w.extractLsb' 96 28 = v.extractLsb' 96 28) →
    (w.extractLsb' 124 4 = 2#4 →
      w.extractLsb' 112 12 = v.extractLsb' 112 12 ∧ w.extractLsb' 0 64 = v.extractLsb' 0 64) →
    decode w = decode v

/-- A KIND 1 word is active sensing when B0 is 0xFE; else bad length when LEN is not 3; else note-on
when B0 is 0x90 and B2 is not 0; else note-on with velocity 0 when B0 is 0x90; else note-off
when B0 is 0x80; else other. (R120, R121, R290) -/
def Obligations.MidiDispatchTable : Prop :=
  ∀ w : CommandWord, w.extractLsb' 124 4 = 1#4 →
    decode w =
      if w.extractLsb' 112 8 = 0xFE#8 then .midiActiveSensing
      else if w.extractLsb' 120 4 ≠ 3#4 then .midiBadLength
      else if w.extractLsb' 112 8 = 0x90#8 then
        (if w.extractLsb' 96 8 = 0#8 then .midiNoteOnVel0 (w.extractLsb' 104 8)
         else .midiNoteOn (w.extractLsb' 104 8) (w.extractLsb' 96 8))
      else if w.extractLsb' 112 8 = 0x80#8 then
        .midiNoteOff (w.extractLsb' 104 8) (w.extractLsb' 96 8)
      else .midiOther

/-- A KIND 2 word decodes to PARAM_UNKNOWN_DEST exactly when DEST is above 4, and to
PARAM_UNKNOWN_PARAM exactly when DEST is at most 4 and the pair is not one of the fifteen of
R117; a word decodes to RESERVED_KIND exactly when KIND is 3 or more, and to NOP exactly when
KIND is 0. (R111, R117, R121) -/
def Obligations.UnrecognisedParamWords : Prop :=
  ∀ w : CommandWord,
    (decode w = .nop ↔ w.extractLsb' 124 4 = 0#4) ∧
    (decode w = .reservedKind ↔ 3 ≤ (w.extractLsb' 124 4).toNat) ∧
    (w.extractLsb' 124 4 = 2#4 →
      ((decode w = .paramUnknownDest ↔ 4 < (w.extractLsb' 120 4).toNat) ∧
       (decode w = .paramUnknownParam ↔
         (w.extractLsb' 120 4).toNat ≤ 4 ∧
         (w.extractLsb' 120 4, w.extractLsb' 112 8) ∉ recognisedPairs)))

/-- The eighteen lines of the table of R127 assemble to the words listed there, and each of the
eighteen words decodes to the command it stands for. (R127) -/
def Obligations.EncodingExamples : Prop :=
  let words : List CommandWord :=
    [0x13903C64000000000000000000000000, 0x13804000000000000000000000000000,
     0x13903C00000000000000000000000000, 0x11FE0000000000000000000000000000,
     0x12903C00000000000000000000000000, 0x13B00764000000000000000000000000,
     0x2000000000000000405FC00000000000, 0x20010000000000003FF0000000000000,
     0x200200000000000040C7700000000000, 0x21000000000000000000000000000000,
     0x220300000000000040C7700000000000, 0x22040000000000003FF0000000000000,
     0x23050000000000003FF0000000000000, 0x240200000000000040C7700000000000,
     0x22090000000000004014000000000000, 0x20000000000000007FF8000000000000,
     0x30000000000000000000000000000000, 0x00000000000000000000000000000000]
  assembleWords
      ["noteon 60, 100", "noteoff 64", "midi 0x90, 60, 0", "sense", "midi.len 2, 0x90, 60",
       "midi 0xB0, 7, 100", "param oscillator.level, 127", "param oscillator.type, 1",
       "param oscillator.frequency, 12000", "param subOscillator.level, 0",
       "param filter.cutoff, 12000", "param filter.resonance, 1", "param envelope.attack, 1",
       "param lfo.frequency, 12000", "param.raw 2, 9, 5", "param oscillator.level, nan",
       "reserved 3", "nop"] = some words ∧
  words.map decode =
    [.midiNoteOn 60 100, .midiNoteOff 64 0, .midiNoteOnVel0 60, .midiActiveSensing, .midiBadLength,
     .midiOther, .paramOscLevel ⟨0x405FC00000000000⟩, .paramOscType ⟨0x3FF0000000000000⟩,
     .paramOscFrequency ⟨0x40C7700000000000⟩, .paramSubLevel ⟨0⟩,
     .paramFilterCutoff ⟨0x40C7700000000000⟩, .paramFilterResonance ⟨0x3FF0000000000000⟩,
     .paramEnvAttack ⟨0x3FF0000000000000⟩, .paramLfoFrequency ⟨0x40C7700000000000⟩,
     .paramUnknownParam, .paramOscLevel ⟨0x7FF8000000000000⟩, .reservedKind, .nop]

/-- Byte i of a command word is bits [127-8i : 120-8i], byte i of a status register is bits [63-8i :
56-8i]; sixteen such bytes are the word again; that any other number of bytes is rejected by
name is the model's reading (log 21, DEDUCED). (R85) -/
def Obligations.WordsMoveBigEndian : Prop :=
  (∀ (w : CommandWord) (i : Nat), i < 16 →
    (bytesOfWord w)[i]? = some (w.extractLsb' (120 - 8 * i) 8)) ∧
  (∀ (v : BitVec 64) (i : Nat), i < 8 →
    (bytesOfStatus v)[i]? = some (v.extractLsb' (56 - 8 * i) 8)) ∧
  (∀ w : CommandWord, wordOfBytes (bytesOfWord w) = .ok w) ∧
  (∀ bs : List Byte, bs.length ≠ 16 → decodeBytes bs = .error (.notOneWord bs.length))

/-- NOP, MIDI_ACTIVE_SENSING, MIDI_BAD_LENGTH, MIDI_OTHER, PARAM_UNKNOWN_DEST, PARAM_UNKNOWN_PARAM
and RESERVED_KIND complete in every state and change nothing: no register, no flag, no FIFO
entry, no NOTE.LAST. (R123, R291, R292, R297, R303, R331, R332) -/
def Obligations.IgnoredCommandsChangeNothing : Prop :=
  ∀ s : State,
    exec .nop s = .next s ∧ exec .midiActiveSensing s = .next s ∧
    exec .midiBadLength s = .next s ∧ exec .midiOther s = .next s ∧
    exec .paramUnknownDest s = .next s ∧ exec .paramUnknownParam s = .next s ∧
    exec .reservedKind s = .next s

/-- From every state, a note-on with a nonzero velocity byte completes; with note = min(B1, 127) and
vel = min(B2, 127) it sets the note's bit, writes both frequencies, runs triggerOn(vel), writes
NOTE.LAST = 0x01 ++ 0x00 ++ note ++ vel, and changes nothing else; bits [127:112] = 0x1390 with
B2 nonzero decode to it. (R294, R293, R298, R302, R152) -/
def Obligations.NoteOnHoldsRetunesAndTriggers : Prop :=
  (∀ w : CommandWord, w.extractLsb' 112 16 = 0x1390#16 → w.extractLsb' 96 8 ≠ 0#8 →
    decode w = .midiNoteOn (w.extractLsb' 104 8) (w.extractLsb' 96 8)) ∧
  ∀ (b1 b2 : Byte) (note vel : BitVec 7) (s : State), b2 ≠ 0 →
    note.toNat = Nat.min b1.toNat 127 → vel.toNat = Nat.min b2.toNat 127 →
    exec (.midiNoteOn b1 b2) s = .next
      { s with
        noteActive := s.noteActive ||| (1#128 <<< note.toNat)
        osc := { s.osc with freq := noteToFrequency note.toNat s.osc.oct }
        sub := { s.sub with freq := noteToFrequency note.toNat s.sub.oct }
        env := s.env.triggerOn s.cfg vel
        noteLast := 0x01#8 ++ 0x00#8 ++ note.setWidth 8 ++ vel.setWidth 8 }

/-- triggerOn writes PEAK, V0, SEG0, K and MODE, and SEG1 with NSEG 2 exactly when ENV.D is below
127, else NSEG 1; the parameters A, D, S, R and, with D = 127, the unused segment keep their
values. (R195, R196, R192) -/
def Obligations.TriggerOnBuildsSchedule : Prop :=
  ∀ (c : Config) (vel : BitVec 7) (e : Env),
    (e.d.toNat < 127 → e.triggerOn c vel =
      { e with
        peak := F64.div (F64.ofNat vel.toNat) (F64.ofNat 127)
        v0 := F64.zero
        seg0Tgt := F64.div (F64.ofNat vel.toNat) (F64.ofNat 127)
        seg0Len := rampLen c e.a
        seg1Tgt := F64.mul (F64.div (F64.ofNat e.s.toNat) (F64.ofNat 127))
          (F64.div (F64.ofNat vel.toNat) (F64.ofNat 127))
        seg1Len := rampLen c e.d
        nseg := 2
        k := 0
        mode := .on }) ∧
    (e.d.toNat = 127 → e.triggerOn c vel =
      { e with
        peak := F64.div (F64.ofNat vel.toNat) (F64.ofNat 127)
        v0 := F64.zero
        seg0Tgt := F64.div (F64.ofNat vel.toNat) (F64.ofNat 127)
        seg0Len := rampLen c e.a
        nseg := 1
        k := 0
        mode := .on })

/-- With a the held set without the note: if a is empty, triggerOff runs and the pitch stays; if h
is the highest note in a, both oscillators play h and the envelope is unchanged. NOTE.LAST =
0x02 ++ 0x00 ++ note ++ vel. Nothing else changes. The note need not be held. (R296, R299, R300,
R301, R302) -/
def Obligations.NoteOffReleasesOrRetunes : Prop :=
  ∀ (b1 b2 : Byte) (note vel : BitVec 7) (s : State),
    note.toNat = Nat.min b1.toNat 127 → vel.toNat = Nat.min b2.toNat 127 →
    (s.noteActive &&& ~~~(1#128 <<< note.toNat) = 0 →
      exec (.midiNoteOff b1 b2) s = .next
        { s with
          noteActive := 0
          env := s.env.triggerOff s.cfg
          noteLast := 0x02#8 ++ 0x00#8 ++ note.setWidth 8 ++ vel.setWidth 8 }) ∧
    (∀ h : BitVec 7,
      (s.noteActive &&& ~~~(1#128 <<< note.toNat)).getLsbD h.toNat = true →
      (∀ j, h.toNat < j →
        (s.noteActive &&& ~~~(1#128 <<< note.toNat)).getLsbD j = false) →
      exec (.midiNoteOff b1 b2) s = .next
        { s with
          noteActive := s.noteActive &&& ~~~(1#128 <<< note.toNat)
          osc := { s.osc with freq := noteToFrequency h.toNat s.osc.oct }
          sub := { s.sub with freq := noteToFrequency h.toNat s.sub.oct }
          noteLast := 0x02#8 ++ 0x00#8 ++ note.setWidth 8 ++ vel.setWidth 8 })

/-- Words with bits [127:112] = 0x1390 and B2 = 0 decode to MIDI_NOTE_ON_VEL0, which completes in
every state and does exactly what MIDI_NOTE_OFF with B2 = 0 does, NOTE.LAST included. (R295) -/
def Obligations.NoteOnVel0IsNoteOff : Prop :=
  (∀ w : CommandWord, w.extractLsb' 112 16 = 0x1390#16 → w.extractLsb' 96 8 = 0#8 →
    decode w = .midiNoteOnVel0 (w.extractLsb' 104 8)) ∧
  ∀ (b1 : Byte) (s : State),
    exec (.midiNoteOnVel0 b1) s = exec (.midiNoteOff b1 0) s ∧
    ∃ t, exec (.midiNoteOnVel0 b1) s = .next t ∧
      t.noteLast.extractLsb' 24 8 = 2#8 ∧ t.noteLast.extractLsb' 16 8 = 0#8 ∧
      t.noteLast.extractLsb' 0 8 = 0#8 ∧
      (t.noteLast.extractLsb' 8 8).toNat = Nat.min b1.toNat 127

/-- triggerOff sets V0 to G() under the old schedule, SEG0 to (0.0, rampLen(R)), NSEG 1, K 0 and
MODE OFF and keeps the rest; from an envelope never triggered with V0 0.0 the release starts at
0.0; with R = 0 and a legal configuration the gain is 0.0 from the first tick. (R198) -/
def Obligations.TriggerOffReleasesFromCurrentGain : Prop :=
  ∀ (c : Config) (e : Env),
    e.triggerOff c =
      { e with
        v0 := e.gain, seg0Tgt := F64.zero, seg0Len := rampLen c e.r, nseg := 1, k := 0,
        mode := .off } ∧
    (e.nseg = 0 → e.v0 = F64.zero → (e.triggerOff c).v0 = F64.zero) ∧
    (c.legal = true → e.r = 0 → (e.triggerOff c).gain = F64.zero)

/-- Bits 0x2000 and 0x2100 decode to the two commands; with a finite VALUE v they write the level
clamp(v, 0, 127)/127 and nothing else, 0.0 below 0 and 1.0 above 127, not rounded (63.5 gives
0.5); with any other VALUE they change nothing; the examples of the two rules hold. (R333, R336) -/
def Obligations.LevelCommandsWriteLevel : Prop :=
  (∀ w : CommandWord, w.extractLsb' 112 16 = 0x2000#16 →
    decode w = .paramOscLevel ⟨w.extractLsb' 0 64⟩) ∧
  (∀ w : CommandWord, w.extractLsb' 112 16 = 0x2100#16 →
    decode w = .paramSubLevel ⟨w.extractLsb' 0 64⟩) ∧
  (∀ (v : F64) (s : State), v.finite = true →
    exec (.paramOscLevel v) s = .next
      { s with osc := { s.osc with
          level := F64.div (F64.clamp (positiveZero v) F64.zero (F64.ofNat 127)) (F64.ofNat 127) } } ∧
    exec (.paramSubLevel v) s = .next
      { s with sub := { s.sub with
          level := F64.div (F64.clamp (positiveZero v) F64.zero (F64.ofNat 127)) (F64.ofNat 127) } }) ∧
  (∀ (v : F64) (s : State), v.finite = false →
    exec (.paramOscLevel v) s = .next s ∧ exec (.paramSubLevel v) s = .next s) ∧
  (∀ (v : F64) (s : State), v.finite = true → F64.lt v F64.zero = true →
    exec (.paramOscLevel v) s = .next { s with osc := { s.osc with level := F64.zero } }) ∧
  (∀ (v : F64) (s : State), v.finite = true → F64.lt (F64.ofNat 127) v = true →
    exec (.paramOscLevel v) s = .next { s with osc := { s.osc with level := F64.one } }) ∧
  (∀ s : State, exec (.paramOscLevel (F64.ofRat false 127 2)) s =
    .next { s with osc := { s.osc with level := F64.ofRat false 1 2 } }) ∧
  (∀ s : State, exec (decode 0x2000000000000000405FC00000000000#128) s =
    .next { s with osc := { s.osc with level := F64.one } }) ∧
  (∀ s : State, exec (decode 0x21000000000000000000000000000000#128) s =
    .next { s with sub := { s.sub with level := F64.zero } })

/-- Bits 0x2001 and 0x2101 decode to the two commands; a finite VALUE equal to the code of a
waveform selects it and changes nothing else, the phase included; any other VALUE changes
nothing; -0.0 selects sine. (R334, R337, R118, R156) -/
def Obligations.TypeCommandsSelectWaveform : Prop :=
  (∀ w : CommandWord, w.extractLsb' 112 16 = 0x2001#16 →
    decode w = .paramOscType ⟨w.extractLsb' 0 64⟩) ∧
  (∀ w : CommandWord, w.extractLsb' 112 16 = 0x2101#16 →
    decode w = .paramSubType ⟨w.extractLsb' 0 64⟩) ∧
  (∀ (k : Waveform) (v : F64) (s : State), F64.eq v (F64.ofNat k.code) = true →
    exec (.paramOscType v) s = .next { s with osc := { s.osc with kind := k } } ∧
    exec (.paramSubType v) s = .next { s with sub := { s.sub with kind := k } }) ∧
  (∀ (v : F64) (s : State), (∀ k : Waveform, F64.eq v (F64.ofNat k.code) = false) →
    exec (.paramOscType v) s = .next s ∧ exec (.paramSubType v) s = .next s) ∧
  (∀ s : State, exec (.paramOscType F64.zero.neg) s =
    .next { s with osc := { s.osc with kind := .sine } })

/-- Bits 0x2002 and 0x2102 decode to the two commands; a finite VALUE v writes clamp(v, -FS/2, FS/2)
to the base frequency and nothing else; any other VALUE changes nothing. (R335, R338, R157) -/
def Obligations.FrequencyCommandsWriteFrequency : Prop :=
  (∀ w : CommandWord, w.extractLsb' 112 16 = 0x2002#16 →
    decode w = .paramOscFrequency ⟨w.extractLsb' 0 64⟩) ∧
  (∀ w : CommandWord, w.extractLsb' 112 16 = 0x2102#16 →
    decode w = .paramSubFrequency ⟨w.extractLsb' 0 64⟩) ∧
  (∀ (v : F64) (s : State), v.finite = true →
    exec (.paramOscFrequency v) s = .next
      { s with osc := { s.osc with
          freq := F64.clamp (positiveZero v) (F64.div (F64.ofNat s.cfg.fs) (F64.ofNat 2)).neg
            (F64.div (F64.ofNat s.cfg.fs) (F64.ofNat 2)) } } ∧
    exec (.paramSubFrequency v) s = .next
      { s with sub := { s.sub with
          freq := F64.clamp (positiveZero v) (F64.div (F64.ofNat s.cfg.fs) (F64.ofNat 2)).neg
            (F64.div (F64.ofNat s.cfg.fs) (F64.ofNat 2)) } }) ∧
  (∀ (v : F64) (s : State), v.finite = false →
    exec (.paramOscFrequency v) s = .next s ∧ exec (.paramSubFrequency v) s = .next s)

/-- Bits 0x2400 and 0x2402 decode to the two commands; a finite VALUE v writes clamp(v, -FS/2, FS/2)
and nothing else, the LFO phase included; any other VALUE changes nothing. (R346, R347, R186,
R187) -/
def Obligations.LfoCommandsWriteDepthAndRate : Prop :=
  (∀ w : CommandWord, w.extractLsb' 112 16 = 0x2400#16 →
    decode w = .paramLfoLevel ⟨w.extractLsb' 0 64⟩) ∧
  (∀ w : CommandWord, w.extractLsb' 112 16 = 0x2402#16 →
    decode w = .paramLfoFrequency ⟨w.extractLsb' 0 64⟩) ∧
  (∀ (v : F64) (s : State), v.finite = true →
    exec (.paramLfoLevel v) s = .next
      { s with lfo := { s.lfo with
          level := F64.clamp (positiveZero v) (F64.div (F64.ofNat s.cfg.fs) (F64.ofNat 2)).neg
            (F64.div (F64.ofNat s.cfg.fs) (F64.ofNat 2)) } } ∧
    exec (.paramLfoFrequency v) s = .next
      { s with lfo := { s.lfo with
          freq := F64.clamp (positiveZero v) (F64.div (F64.ofNat s.cfg.fs) (F64.ofNat 2)).neg
            (F64.div (F64.ofNat s.cfg.fs) (F64.ofNat 2)) } }) ∧
  (∀ (v : F64) (s : State), v.finite = false →
    exec (.paramLfoLevel v) s = .next s ∧ exec (.paramLfoFrequency v) s = .next s)

/-- Bits 0x2203, 0x2204 and 0x2201 decode to the three commands; a finite cutoff is clamped to [20,
min(20000, FS/2 - 1)], a finite Q to [0.0001, 1000], a type must equal a code; the five
coefficients become those of the new parameters and nothing else changes; other VALUEs change
nothing. (R339, R340, R341, R236, R237, R238) -/
def Obligations.FilterCommandsRecompute : Prop :=
  (∀ w : CommandWord, w.extractLsb' 112 16 = 0x2203#16 →
    decode w = .paramFilterCutoff ⟨w.extractLsb' 0 64⟩) ∧
  (∀ w : CommandWord, w.extractLsb' 112 16 = 0x2204#16 →
    decode w = .paramFilterResonance ⟨w.extractLsb' 0 64⟩) ∧
  (∀ w : CommandWord, w.extractLsb' 112 16 = 0x2201#16 →
    decode w = .paramFilterType ⟨w.extractLsb' 0 64⟩) ∧
  (∀ (v : F64) (s : State), v.finite = true →
    exec (.paramFilterCutoff v) s = .next
      { s with flt := Flt.recompute s.cfg { s.flt with
          cutoff := F64.clamp (positiveZero v) (F64.ofNat 20)
            (F64.min (F64.ofNat 20000)
              (F64.sub (F64.div (F64.ofNat s.cfg.fs) (F64.ofNat 2)) (F64.ofNat 1))) } } ∧
    exec (.paramFilterResonance v) s = .next
      { s with flt := Flt.recompute s.cfg { s.flt with
          q := F64.clamp (positiveZero v) (F64.ofRat false 1 10000) (F64.ofNat 1000) } }) ∧
  (∀ (k : FilterType) (v : F64) (s : State), F64.eq v (F64.ofNat k.code) = true →
    exec (.paramFilterType v) s = .next
      { s with flt := Flt.recompute s.cfg { s.flt with type := k } }) ∧
  (∀ (v : F64) (s : State), (∀ k : FilterType, F64.eq v (F64.ofNat k.code) = false) →
    exec (.paramFilterType v) s = .next s) ∧
  (∀ (v : F64) (s : State), v.finite = false →
    exec (.paramFilterCutoff v) s = .next s ∧ exec (.paramFilterResonance v) s = .next s ∧
    exec (.paramFilterType v) s = .next s) ∧
  (∀ (c : Config) (f : Flt),
    (f.recompute c).x1 = f.x1 ∧ (f.recompute c).x2 = f.x2 ∧
    (f.recompute c).y1 = f.y1 ∧ (f.recompute c).y2 = f.y2 ∧
    (f.recompute c).type = f.type ∧ (f.recompute c).cutoff = f.cutoff ∧
    (f.recompute c).q = f.q)

/-- With t = fc/FS, c = cosTurns(t), s = sinTurns(t), al = s/(2Q) and a0 = 1+al, recompute stores A1
= (-2c)/a0, A2 = (1-al)/a0 and B0, B1, B2 = b0/a0, b1/a0, b2/a0 with (b0, b1, b2) of the type:
lowpass ((1-c)/2, 1-c, (1-c)/2), highpass ((1+c)/2, -(1+c), (1+c)/2), bandpass (al, 0, -al),
notch (1, -2c, 1), allpass (1-al, -2c, 1+al). (R231, R232) -/
def Obligations.CoefficientFormulas : Prop :=
  ∀ (c : Config) (f : Flt),
    let t := F64.div f.cutoff (F64.ofNat c.fs)
    let co := cosTurns t
    let al := F64.div (sinTurns t) (F64.mul (F64.ofNat 2) f.q)
    let a0 := F64.add (F64.ofNat 1) al
    let b0 := fun b : F64 => (f.recompute c).b0 = F64.div b a0
    let b1 := fun b : F64 => (f.recompute c).b1 = F64.div b a0
    let b2 := fun b : F64 => (f.recompute c).b2 = F64.div b a0
    (f.recompute c).a1 = F64.div (F64.mul (F64.ofInt (-2)) co) a0 ∧
    (f.recompute c).a2 = F64.div (F64.sub (F64.ofNat 1) al) a0 ∧
    (f.type = .lowpass →
      b0 (F64.div (F64.sub (F64.ofNat 1) co) (F64.ofNat 2)) ∧ b1 (F64.sub (F64.ofNat 1) co) ∧
      b2 (F64.div (F64.sub (F64.ofNat 1) co) (F64.ofNat 2))) ∧
    (f.type = .highpass →
      b0 (F64.div (F64.add (F64.ofNat 1) co) (F64.ofNat 2)) ∧ b1 (F64.add (F64.ofNat 1) co).neg ∧
      b2 (F64.div (F64.add (F64.ofNat 1) co) (F64.ofNat 2))) ∧
    (f.type = .bandpass → b0 al ∧ b1 F64.zero ∧ b2 al.neg) ∧
    (f.type = .notch →
      b0 (F64.ofNat 1) ∧ b1 (F64.mul (F64.ofInt (-2)) co) ∧ b2 (F64.ofNat 1)) ∧
    (f.type = .allpass →
      b0 (F64.sub (F64.ofNat 1) al) ∧ b1 (F64.mul (F64.ofInt (-2)) co) ∧
      b2 (F64.add (F64.ofNat 1) al))

/-- Bits 0x2305 to 0x2308 decode to the four commands; a finite VALUE v writes rne(clamp(v, 0, 127))
to A, D, S or R and nothing else; any other VALUE changes nothing; 0.5 gives 0, 1.5 gives 2,
126.5 gives 126, 200 gives 127. (R342, R343, R344, R345, R200) -/
def Obligations.EnvelopeCommandsWriteParameters : Prop :=
  (∀ w : CommandWord, w.extractLsb' 112 16 = 0x2305#16 →
    decode w = .paramEnvAttack ⟨w.extractLsb' 0 64⟩) ∧
  (∀ w : CommandWord, w.extractLsb' 112 16 = 0x2306#16 →
    decode w = .paramEnvDecay ⟨w.extractLsb' 0 64⟩) ∧
  (∀ w : CommandWord, w.extractLsb' 112 16 = 0x2307#16 →
    decode w = .paramEnvSustain ⟨w.extractLsb' 0 64⟩) ∧
  (∀ w : CommandWord, w.extractLsb' 112 16 = 0x2308#16 →
    decode w = .paramEnvRelease ⟨w.extractLsb' 0 64⟩) ∧
  (∀ (v : F64) (s : State), v.finite = true →
    exec (.paramEnvAttack v) s = .next { s with env := { s.env with
      a := BitVec.ofInt 7 (F64.rne (F64.clamp (positiveZero v) F64.zero (F64.ofNat 127))) } } ∧
    exec (.paramEnvDecay v) s = .next { s with env := { s.env with
      d := BitVec.ofInt 7 (F64.rne (F64.clamp (positiveZero v) F64.zero (F64.ofNat 127))) } } ∧
    exec (.paramEnvSustain v) s = .next { s with env := { s.env with
      s := BitVec.ofInt 7 (F64.rne (F64.clamp (positiveZero v) F64.zero (F64.ofNat 127))) } } ∧
    exec (.paramEnvRelease v) s = .next { s with env := { s.env with
      r := BitVec.ofInt 7 (F64.rne (F64.clamp (positiveZero v) F64.zero (F64.ofNat 127))) } }) ∧
  (∀ (v : F64) (s : State), v.finite = false →
    exec (.paramEnvAttack v) s = .next s ∧ exec (.paramEnvDecay v) s = .next s ∧
    exec (.paramEnvSustain v) s = .next s ∧ exec (.paramEnvRelease v) s = .next s) ∧
  (∀ s : State,
    exec (.paramEnvAttack (F64.ofRat false 1 2)) s = .next { s with env := { s.env with a := 0 } } ∧
    exec (.paramEnvAttack (F64.ofRat false 3 2)) s = .next { s with env := { s.env with a := 2 } } ∧
    exec (.paramEnvAttack (F64.ofRat false 253 2)) s =
      .next { s with env := { s.env with a := 126 } } ∧
    exec (.paramEnvAttack (F64.ofNat 200)) s = .next { s with env := { s.env with a := 127 } })

/-- For each of the fifteen parameter commands and every state: a VALUE that is NaN or infinite
changes nothing, and the command with -0.0 answers what it answers with +0.0. (R330) -/
def Obligations.ParamValuesAreSanitised : Prop :=
  (∀ (v : F64) (i : Instr) (s : State), i ∈ paramCommands v → v.finite = false →
    exec i s = .next s) ∧
  (∀ (s : State) (k : Fin 15),
    ((paramCommands F64.zero.neg)[k.val]?.map fun i => exec i s) =
      ((paramCommands F64.zero)[k.val]?.map fun i => exec i s))

/-- For each of the fifteen parameter commands, every VALUE and every state: it completes, and
completing again from the state it answers changes nothing. (R348) -/
def Obligations.ParamCommandsAreIdempotent : Prop :=
  ∀ (v : F64) (i : Instr) (s : State), i ∈ paramCommands v →
    ∃ t, exec i s = .next t ∧ exec i t = .next t

/-- For every command and every state, exec answers a next state: never a fault, never a refusal.
(R380, R121) -/
def Obligations.EveryCommandCompletes : Prop :=
  ∀ (i : Instr) (s : State), ∃ t, exec i s = .next t

/-- Every step of the engine by itself answers a next state. A step of the machine answers a next
state exactly when the host's next act, if any, is inside the interface (a push, sixteen bytes,
an index up to 0x3F, a legal reset at a block boundary, letting the engine run), and is refused
otherwise. The acts and the refusals are the model's (logs 13 and 14). (R380, R381) -/
def Obligations.EngineNeverStops : Prop :=
  (∀ s : State, ∃ t, engineStep s = .next t) ∧
  (∀ s : State, s.actAllowed = true → ∃ t, step s = .next t) ∧
  (∀ s : State, s.actAllowed = false → ∃ r, step s = .refused r)

/-- For every command and state, the state it answers has the same SAMPLE_COUNT, the same three
phases, the same delay registers, OVF, FIFO, snapshot, octaves, LFO.KIND and configuration, the
same place in the block step and the same outside world; and unless it is one of the three note
commands it keeps NOTE.ACTIVE, NOTE.LAST, ENV.K and the rest of the schedule. (R163, R182, R38,
R32, R200) -/
def Obligations.CommandsKeepRunningState : Prop :=
  ∀ (i : Instr) (s t : State), exec i s = .next t →
    t.sampleCount = s.sampleCount ∧ t.osc.phase = s.osc.phase ∧ t.sub.phase = s.sub.phase ∧
    t.lfo.phase = s.lfo.phase ∧ t.flt.x1 = s.flt.x1 ∧ t.flt.x2 = s.flt.x2 ∧
    t.flt.y1 = s.flt.y1 ∧ t.flt.y2 = s.flt.y2 ∧ t.ovf = s.ovf ∧ t.fifo = s.fifo ∧
    t.snapshot = s.snapshot ∧ t.osc.oct = s.osc.oct ∧ t.sub.oct = s.sub.oct ∧
    t.cfg = s.cfg ∧ t.seq = s.seq ∧ t.outside = s.outside ∧
    ((∀ b1 b2, i ≠ .midiNoteOn b1 b2) → (∀ b1, i ≠ .midiNoteOnVel0 b1) →
      (∀ b1 b2, i ≠ .midiNoteOff b1 b2) →
      t.noteActive = s.noteActive ∧ t.noteLast = s.noteLast ∧
      t.env = { s.env with a := t.env.a, d := t.env.d, s := t.env.s, r := t.env.r })

/-- With a batch w :: ws being applied and no host act before it, a step is exec of decode w on the
state whose batch is ws; the same where the host's act is to let the engine run; and with the
encoded word of a well-formed command as the batch, a step is exec of that command. That one
step applies one command is the model's split of the block step (log 12), the act elapse and the
empty script are log 13, the placed word is log 16 (each a DESIGN CHOICE); the spec applies the
batch in one atomic step. (R264, R84) -/
def Obligations.StepAppliesDecodedCommand : Prop :=
  (∀ (s : State) (w : CommandWord) (ws : List CommandWord),
    s.outside.script = [] → s.seq = .applying (w :: ws) →
    step s = exec (decode w) { s with seq := .applying ws }) ∧
  (∀ (s : State) (w : CommandWord) (ws : List CommandWord) (rest : List HostAction),
    s.outside.script = .elapse :: rest → s.seq = .applying (w :: ws) →
    step s = exec (decode w)
      { s with seq := .applying ws, outside := { s.outside with script := rest } }) ∧
  (∀ (i : Instr) (s : State), i.wellFormed = true →
    s.withFetchWord 128 (encode i).toNat = s.withCommand (encode i) ∧
    step (s.withCommand (encode i)) =
      exec i { s with seq := .applying [], outside := { s.outside with script := [] } })

/-- With no host act pending: at a boundary a step empties the FIFO and makes its entries, head
first, the batch; at the end of the batch BLOCK ticks are to come; with n + 1 ticks to come a
step is a tick; with none to come a step publishes the snapshot and is back at a boundary. The
host's act to let the engine run is one such step. The lines are those of block_step; that each
is a step of its own, and that an empty script lets the engine go on, are the model's (logs 12
and 13, DESIGN CHOICE). (R84, R264, R268) -/
def Obligations.BoundaryTakesWholeFifo : Prop :=
  (∀ s : State, s.outside.script = [] →
    (s.seq = .boundary → step s = .next { s with fifo := [], seq := .applying s.fifo }) ∧
    (s.seq = .applying [] → step s = .next { s with seq := .ticking s.cfg.block }) ∧
    (∀ n, s.seq = .ticking (n + 1) → step s = .next { s.tick with seq := .ticking n }) ∧
    (s.seq = .ticking 0 → step s = .next
      { s with
        seq := .boundary
        snapshot := { regs := s.toRegs, gain := s.env.gain, stage := s.env.stage } })) ∧
  (∀ (s : State) (rest : List HostAction), s.outside.script = .elapse :: rest →
    step s = engineStep { s with outside := { s.outside with script := rest } })

/-- The tick's registers, sample and frame, written out from R263: what it writes is as the
pseudocode says and every other field of the state is unchanged. (R263, R233, R234, R181, R161) -/
def Obligations.TickFollowsThePseudocode : Prop :=
  ∀ s : State,
    let l := F64.mul s.lfo.level (sinTurns s.lfo.phase)
    let so := F64.mul s.osc.level (wave s.osc.kind s.osc.phase)
    let ss := F64.mul s.sub.level (wave s.sub.kind s.sub.phase)
    let x := F64.add so ss
    let y := F64.sub (F64.sub (F64.add (F64.add (F64.mul s.flt.b0 x) (F64.mul s.flt.b1 s.flt.x1))
      (F64.mul s.flt.b2 s.flt.x2)) (F64.mul s.flt.a1 s.flt.y1)) (F64.mul s.flt.a2 s.flt.y2)
    let fs := F64.ofNat s.cfg.fs
    s.tick =
      { s with
        flt := { s.flt with x2 := s.flt.x1, x1 := x, y2 := s.flt.y1, y1 := y }
        env := { s.env with
          k := if s.env.k.toNat < 2 ^ 64 - 1 then s.env.k + 1 else s.env.k }
        lfo := { s.lfo with phase := adv s.lfo.phase (F64.div s.lfo.freq fs) }
        osc := { s.osc with phase := adv s.osc.phase (F64.div (F64.add s.osc.freq l) fs) }
        sub := { s.sub with phase := adv s.sub.phase (F64.div (F64.add s.sub.freq l) fs) }
        sampleCount := s.sampleCount + 1
        outside := { s.outside with audio := s.outside.audio ++ [F64.mul y s.env.gain] } }

/-- From a boundary with no host act pending, (entries in the FIFO) + BLOCK + 3 steps of the machine
answer exactly what block_step answers: every FIFO entry applied in order, BLOCK ticks, one
snapshot. With run (n + 1) as the host's next act, as many steps answer what block_step answers,
with run n still to do; each of them is a step of the engine; run 0 does nothing. The split into
steps and their count are the model's (log 12, DESIGN CHOICE), the script is log 13. (R264, R84,
R90, R125) -/
def Obligations.StepsOfABlockAreTheBlockStep : Prop :=
  (∀ s : State, s.outside.script = [] → s.seq = .boundary →
    ∃ t, s.blockStep = .next t ∧
      Host.Core.run Sys2Proof.core (s.fifo.length + s.cfg.block + 3) s = .next t) ∧
  (∀ (s : State) (n : Nat) (rest : List HostAction),
    s.outside.script = .run (n + 1) :: rest → s.seq = .boundary →
    ∃ t, State.blockStep { s with outside := { s.outside with script := rest } } = .next t ∧
      Host.Core.run Sys2Proof.core (s.fifo.length + s.cfg.block + 3) s =
        .next { t with outside := { t.outside with script := .run n :: rest } }) ∧
  (∀ (s t : State) (n : Nat) (rest : List HostAction),
    s.outside.script = .run (n + 1) :: rest →
    engineStep { s with outside := { s.outside with script := rest } } = .next t →
    step s = .next { t with outside := { t.outside with
      script := (if t.seq = .boundary then .run n else .run (n + 1)) :: rest } }) ∧
  (∀ (s : State) (rest : List HostAction), s.outside.script = .run 0 :: rest →
    step s = .next { s with outside := { s.outside with script := rest } })

/-- From every state block_step completes; the audio stream grows by exactly BLOCK samples at its
end, SAMPLE_COUNT grows by BLOCK modulo 2^64, the FIFO is empty, the configuration is unchanged,
and the snapshot shows the state at the end of the block. (R264, R265, R32, R268) -/
def Obligations.BlockStepEmitsBlockSamples : Prop :=
  ∀ s : State, ∃ t l, s.blockStep = .next t ∧ l.length = s.cfg.block ∧
    t.outside.audio = s.outside.audio ++ l ∧
    t.sampleCount = s.sampleCount + BitVec.ofNat 64 s.cfg.block ∧
    t.fifo = [] ∧ t.cfg = s.cfg ∧ t.snapshot.regs = t.toRegs ∧
    t.snapshot.gain = t.env.gain ∧ t.snapshot.stage = t.env.stage

/-- In one batch, a frequency parameter before a note-on is overwritten by it and after it wins; an
envelope parameter after a note-on leaves that note's schedule as it was; a note-on and a note-
off of the same note with no other note held release from 0.0 when A is above 0. (R418, R90,
R200, R198) -/
def Obligations.OrderWithinABatchMatters : Prop :=
  ∀ (s : State) (v : F64) (b1 b2 : Byte), v.finite = true → b2 ≠ 0 →
    (∃ t, applyBatch [paramWord 0 2 v, midiWord 3 0x90 b1 b2] s = .next t ∧
      t.osc.freq = noteToFrequency (Nat.min b1.toNat 127) s.osc.oct) ∧
    (∃ t, applyBatch [midiWord 3 0x90 b1 b2, paramWord 0 2 v] s = .next t ∧
      t.osc.freq = F64.clamp (positiveZero v) s.cfg.halfFs.neg s.cfg.halfFs) ∧
    (∀ p : BitVec 8, p ∈ [5#8, 6#8, 7#8, 8#8] →
      ∃ t u, applyBatch [midiWord 3 0x90 b1 b2] s = .next t ∧
        applyBatch [midiWord 3 0x90 b1 b2, paramWord 3 p v] s = .next u ∧
        u.env = { t.env with a := u.env.a, d := u.env.d, s := u.env.s, r := u.env.r }) ∧
    (s.noteActive = 0 → s.cfg.legal = true → 0 < s.env.a.toNat →
      ∃ t, applyBatch [midiWord 3 0x90 b1 b2, midiWord 3 0x80 b1 0] s = .next t ∧
        t.env.mode = .off ∧ t.env.v0 = F64.zero ∧ t.noteActive = 0)

/-- When the FIFO holds fewer than FIFO_DEPTH entries the word goes to the tail and nothing else
changes; when it holds FIFO_DEPTH the word is dropped, OVF becomes 1 and nothing else changes.
The host's script moves on. (R82, R83) -/
def Obligations.PushAppendsOrDrops : Prop :=
  ∀ (s : State) (w : CommandWord) (rest : List HostAction), s.outside.script = .push w :: rest →
    (s.fifo.length < s.cfg.fifoDepth →
      step s = .next
        { s with fifo := s.fifo ++ [w], outside := { s.outside with script := rest } }) ∧
    (s.fifo.length = s.cfg.fifoDepth →
      step s = .next { s with ovf := true, outside := { s.outside with script := rest } })

/-- For every step of the machine that is not a reset act of the host: if OVF is set before, it is
set after. (R43, R83) -/
def Obligations.OverflowFlagIsSticky : Prop :=
  ∀ s t : State, step s = .next t → s.noResetNext → s.ovf = true → t.ovf = true

/-- A read of an index from 0x00 to 0x3F appends the register's value to what the host has read and
changes nothing else; a read as bytes appends its eight bytes, byte i being bits [63-8i :
56-8i]; a read above 0x3F is refused by name; indices the map does not name read 0. The lists of
what was read are the model's (log 15). (R86, R87, R48, R85) -/
def Obligations.StatusReadsHaveNoSideEffect : Prop :=
  (∀ (s : State) (i : Nat) (rest : List HostAction), s.outside.script = .readStatus i :: rest →
    (i ≤ 0x3F → step s = .next
      { s with outside := { s.outside with
          script := rest, reads := s.outside.reads ++ [s.statusAt i] } }) ∧
    (0x3F < i → step s = .refused (.statusIndexAbove3F i))) ∧
  (∀ (s : State) (i : Nat) (rest : List HostAction),
    s.outside.script = .readStatusBytes i :: rest →
    (i ≤ 0x3F → step s = .next
      { s with outside := { s.outside with
          script := rest
          readBytes := s.outside.readBytes ++
            (List.range 8).map fun k => (s.statusAt i).extractLsb' (56 - 8 * k) 8 } }) ∧
    (0x3F < i → step s = .refused (.statusIndexAbove3F i))) ∧
  (∀ (s : State) (i : Nat),
    i ∈ [0x0B, 0x0C, 0x0D, 0x0E, 0x0F, 0x14, 0x15, 0x16, 0x17, 0x1C, 0x1D, 0x1E, 0x1F,
      0x24, 0x25, 0x26, 0x27, 0x34, 0x35, 0x36, 0x37, 0x3F] → s.statusAt i = 0)

/-- Each index of the table shows the register it names: the snapshot's registers, the
configuration, and at 0x06 the live FIFO count and OVF. (R48) -/
def Obligations.StatusWindowIndexMap : Prop :=
  ∀ s : State,
    let r := s.snapshot.regs
    s.statusAt 0x00 = r.sampleCount ∧
    s.statusAt 0x01 = r.noteActive.extractLsb' 0 64 ∧
    s.statusAt 0x02 = r.noteActive.extractLsb' 64 64 ∧
    s.statusAt 0x03 = r.noteLast.setWidth 64 ∧
    s.statusAt 0x05 = s.snapshot.gain.bits ∧
    (s.fifo.length < 2 ^ 32 → (s.statusAt 0x06).toNat =
      s.fifo.length + if s.ovf then 2 ^ 32 else 0) ∧
    s.statusAt 0x07 = (F64.ofNat s.cfg.fs).bits ∧
    (s.cfg.block < 2 ^ 64 → (s.statusAt 0x08).toNat = s.cfg.block) ∧
    (s.cfg.fifoDepth < 2 ^ 64 → (s.statusAt 0x09).toNat = s.cfg.fifoDepth) ∧
    ((s.statusAt 0x0A).extractLsb' 0 8 = BitVec.ofInt 8 s.cfg.oscOctave ∧
      (s.statusAt 0x0A).extractLsb' 8 8 = BitVec.ofInt 8 s.cfg.subOctave ∧
      (s.statusAt 0x0A).extractLsb' 16 48 = 0) ∧
    [0x10, 0x11, 0x12, 0x13].map s.statusAt =
      [BitVec.ofNat 64 r.osc.kind.code, r.osc.level.bits, r.osc.freq.bits, r.osc.phase.bits] ∧
    [0x18, 0x19, 0x1A, 0x1B].map s.statusAt =
      [BitVec.ofNat 64 r.sub.kind.code, r.sub.level.bits, r.sub.freq.bits, r.sub.phase.bits] ∧
    [0x20, 0x21, 0x22, 0x23].map s.statusAt =
      [0, r.lfo.level.bits, r.lfo.freq.bits, r.lfo.phase.bits] ∧
    [0x28, 0x29, 0x2A].map s.statusAt =
      [BitVec.ofNat 64 r.flt.type.code, r.flt.cutoff.bits, r.flt.q.bits] ∧
    [0x2B, 0x2C, 0x2D, 0x2E, 0x2F].map s.statusAt =
      [r.flt.b0.bits, r.flt.b1.bits, r.flt.b2.bits, r.flt.a1.bits, r.flt.a2.bits] ∧
    [0x30, 0x31, 0x32, 0x33].map s.statusAt =
      [r.flt.x1.bits, r.flt.x2.bits, r.flt.y1.bits, r.flt.y2.bits] ∧
    [0x38, 0x39, 0x3A, 0x3B, 0x3C, 0x3D, 0x3E].map s.statusAt =
      [r.env.peak.bits, r.env.v0.bits, r.env.seg0Tgt.bits, r.env.seg0Len, r.env.seg1Tgt.bits,
       r.env.seg1Len, r.env.k]

/-- Index 0x04 holds ENV_STAGE in [2:0], ENV.MODE in [5:4], ENV.NSEG in [7:6], ENV.A in [14:8],
ENV.D in [22:16], ENV.S in [30:24], ENV.R in [38:32] of the snapshot; all other bits are 0.
(R49) -/
def Obligations.EnvStatusFieldLayout : Prop :=
  ∀ s : State,
    let v := s.statusAt 0x04
    let e := s.snapshot.regs.env
    (v.extractLsb' 0 3).toNat = s.snapshot.stage.code ∧
    (v.extractLsb' 4 2).toNat = e.mode.code ∧
    (v.extractLsb' 6 2).toNat = e.nseg.val ∧
    v.extractLsb' 8 7 = e.a ∧ v.extractLsb' 16 7 = e.d ∧
    v.extractLsb' 24 7 = e.s ∧ v.extractLsb' 32 7 = e.r ∧
    ∀ i, i = 3 ∨ i = 15 ∨ i = 23 ∨ i = 31 ∨ 39 ≤ i → v.getLsbD i = false

/-- A step of the engine that is not the publishing one, and a push, leave every status register
except FIFO_STATUS as it was. (R87, R48, R90) -/
def Obligations.SnapshotHoldsBetweenBoundaries : Prop :=
  (∀ s t : State, engineStep s = .next t → s.seq ≠ .ticking 0 →
    ∀ i, i ≠ 0x06 → t.statusAt i = s.statusAt i) ∧
  (∀ (s : State) (w : CommandWord) (i : Nat), i ≠ 0x06 →
    (s.pushWord w).statusAt i = s.statusAt i)

/-- At a block boundary a reset act with a legal configuration answers the engine of R410 for it,
with the outside world kept but for the act taken (a model's choice, log 20); with an illegal
configuration it is refused by name. A reset inside a block step, for which R411 has no move, is
refused by name (log 14). The register values are those of the pseudocode of R410; the
configuration is the one given, and the engine is at a block boundary (log 12) with nothing
outside it (logs 13 and 15). (R410, R411, R47) -/
def Obligations.ResetConstructsTheEngine : Prop :=
  (∀ (s : State) (c : Config) (rest : List HostAction),
    s.outside.script = .reset c :: rest → s.seq = .boundary →
    (c.legal = true → step s = .next
      { State.resetWith c with outside := { s.outside with script := rest } }) ∧
    (c.legal = false → step s = .refused (.illegalConfig c))) ∧
  (∀ (s : State) (c : Config) (rest : List HostAction),
    s.outside.script = .reset c :: rest → s.seq ≠ .boundary →
    step s = .refused .resetInsideBlock) ∧
  ∀ c : Config,
    let s := State.resetWith c
    s.cfg = c ∧ s.seq = .boundary ∧
    s.outside = { script := [], audio := [], reads := [], readBytes := [] } ∧
    s.sampleCount = 0 ∧
    s.osc = { kind := .sine, level := F64.one, freq := noteToFrequency 69 c.oscOctave,
              phase := F64.zero, oct := c.oscOctave } ∧
    s.sub = { kind := .sine, level := F64.one, freq := noteToFrequency 69 c.subOctave,
              phase := F64.zero, oct := c.subOctave } ∧
    s.lfo = { kind := .sine, level := F64.zero, freq := F64.ofNat 5, phase := F64.zero } ∧
    s.flt.type = .lowpass ∧ s.flt.cutoff = c.cutoffMax ∧ s.flt.q = ⟨0x3FE6A09E667F3BCD⟩ ∧
    s.flt = s.flt.recompute c ∧
    s.flt.x1 = F64.zero ∧ s.flt.x2 = F64.zero ∧ s.flt.y1 = F64.zero ∧ s.flt.y2 = F64.zero ∧
    s.env = { mode := .idle, peak := F64.zero, v0 := F64.zero, nseg := 0, seg0Tgt := F64.zero,
              seg0Len := 0, seg1Tgt := F64.zero, seg1Len := 0, k := 0, a := 0, d := 127,
              s := 127, r := 0 } ∧
    s.noteActive = 0 ∧ s.noteLast = 0 ∧ s.fifo = [] ∧ s.ovf = false ∧
    s.snapshot.regs = s.toRegs ∧ s.snapshot.gain = F64.zero ∧ s.snapshot.stage = .idle

/-- At FS = 48000 (the model's choice for State.reset, log 2): OSC.FREQ 440.0, SUB.FREQ 220.0,
cutoff 20000.0, and the five coefficients of the table of R47. (R47, R232) -/
def Obligations.ResetNumbersAt48000 : Prop :=
  State.reset.osc.freq = F64.ofNat 440 ∧ State.reset.sub.freq = F64.ofNat 220 ∧
  State.reset.flt.cutoff = F64.ofNat 20000 ∧
  State.reset.flt.b0 = F64.ofRat false 6893061687675816 (10 ^ 16) ∧
  State.reset.flt.b1 = F64.ofRat false 1378612337535163 (10 ^ 15) ∧
  State.reset.flt.b2 = F64.ofRat false 6893061687675816 (10 ^ 16) ∧
  State.reset.flt.a1 = F64.ofRat false 1279632424997809 (10 ^ 15) ∧
  State.reset.flt.a2 = F64.ofRat false 47759225007251715 (10 ^ 17)

/-- For every legal configuration the state that reset constructs meets Inv: octaves, FIFO size,
batch size, ticks, coefficients equal to their function of the parameters, NSEG with MODE. (R50,
R410) -/
def Obligations.ResetMeetsTheInvariants : Prop :=
  ∀ c : Config, c.legal = true → (State.resetWith c).Inv

/-- For every state that meets Inv, reached or not, every step that answers a next state answers one
that meets Inv: the coefficients equal their function of the parameters, NSEG goes with MODE,
the FIFO and the batch fit, the configuration is legal and the octaves are its. (R50, R37, R45,
R84) -/
def Obligations.EveryStepKeepsTheInvariants : Prop :=
  ∀ s t : State, s.Inv → step s = .next t → t.Inv

/-- For every state with a legal configuration whose clamped registers are in range, every step that
answers a next state keeps them in range: levels in [0, 1], LFO level and frequency in [-FS/2,
FS/2], cutoff and Q in their bounds. (R50, R33, R35, R36, R349) -/
def Obligations.EveryStepKeepsParameterRanges : Prop :=
  ∀ s t : State, s.cfg.legal = true → s.ParamsInRange → step s = .next t → t.ParamsInRange

/-- For every state with a legal configuration whose base frequencies are within the bound, every
step that answers a next state keeps them there, through note commands at any octave, frequency
commands and reset. (R162, R150, R157) -/
def Obligations.EveryStepKeepsFrequencyBound : Prop :=
  ∀ s t : State, s.cfg.legal = true → s.FreqsInRange → step s = .next t → t.FreqsInRange

/-- For every state with a legal configuration, parameters and frequencies in range and phases in
[0, 1), every step that answers a next state keeps the phases in [0, 1). (R50, R158, R162) -/
def Obligations.EveryStepKeepsPhasesInUnitRange : Prop :=
  ∀ s t : State, s.cfg.legal = true → s.ParamsInRange → s.FreqsInRange → s.PhasesInRange →
    step s = .next t → t.PhasesInRange

/-- For every state whose schedule is in range (peak in [0, 1], start and used targets in [0,
peak]), every step that answers a next state keeps it so. (R204, R50, R39) -/
def Obligations.EveryStepKeepsTheScheduleInRange : Prop :=
  ∀ s t : State, EnvInRange s.env → step s = .next t → EnvInRange t.env

/-- For every envelope whose schedule is in range, at every position K: 0 <= G() <= ENV.PEAK. (R204,
R194) -/
def Obligations.GainIsWithinPeak : Prop :=
  ∀ e : Env, EnvInRange e → within F64.zero e.peak e.gain = true

/-- For a legal configuration every ramp length is at most 5 × FS samples, and every step that
answers a next state keeps both segment lengths within 5 × FS. (R39, R191) -/
def Obligations.SegmentLengthsWithinFiveSeconds : Prop :=
  (∀ (c : Config) (x : BitVec 7), c.legal = true → (rampLen c x).toNat ≤ 5 * c.fs) ∧
  (∀ s t : State, s.cfg.legal = true → segmentLengthsOk s.cfg s.env → step s = .next t →
    segmentLengthsOk t.cfg t.env)

/-- If two states differ at most in NOTE.LAST, OVF and the snapshot, a step of the engine answers
two states that differ at most there: registers, audio samples, FIFO and place in the block are
equal. (R302, R43, R90) -/
def Obligations.SoundIgnoresEventAndFlag : Prop :=
  ∀ s t : State, s.SoundsLike t →
    ∃ s' t', engineStep s = .next s' ∧ engineStep t = .next t' ∧ s'.SoundsLike t' ∧
      s'.outside.audio = t'.outside.audio

/-- For every ratio n/d of units: the rounded magnitude is infinity exactly from the midpoint above
the largest finite value on; otherwise no other finite magnitude is nearer to n/d, and if one is
as near the rounded pattern is even. For finite operands the sum, the difference, the product,
the quotient by a nonzero value and the conversion of an integer have the sign of the exact
result and its magnitude so rounded; an exact zero sum is -0.0 only where both terms are
negative. (R13, R18) -/
def Obligations.RoundingIsToNearestEven : Prop :=
  (∀ n d : Nat, 0 < d →
    (F64.roundMag n d = F64.infMag ↔ (2 ^ 54 - 1) * 2 ^ 970 * F64.one1074 * d ≤ n) ∧
    (F64.roundMag n d < F64.infMag → ∀ m, m < F64.infMag →
      let err := fun k : Nat => ((F64.magUnits k * d : Nat) - (n : Int)).natAbs
      err (F64.roundMag n d) ≤ err m ∧
      (err (F64.roundMag n d) = err m → m ≠ F64.roundMag n d → F64.roundMag n d % 2 = 0))) ∧
  (∀ x y : F64, x.finite = true → y.finite = true →
    F64.add x y =
      (if x.signedUnits + y.signedUnits = 0 then F64.ofMag (x.sign && y.sign) 0
       else F64.ofMag (decide (x.signedUnits + y.signedUnits < 0))
         (F64.roundMag (x.signedUnits + y.signedUnits).natAbs 1)) ∧
    F64.sub x y =
      (if x.signedUnits - y.signedUnits = 0 then F64.ofMag (x.sign && !y.sign) 0
       else F64.ofMag (decide (x.signedUnits - y.signedUnits < 0))
         (F64.roundMag (x.signedUnits - y.signedUnits).natAbs 1)) ∧
    F64.mul x y =
      F64.ofMag (x.sign != y.sign) (F64.roundMag (x.units * y.units) F64.one1074) ∧
    (y.isZero = false → F64.div x y =
      F64.ofMag (x.sign != y.sign) (F64.roundMag (x.units * F64.one1074) y.units))) ∧
  (∀ i : Int,
    F64.ofInt i = F64.ofMag (decide (i < 0)) (F64.roundMag (i.natAbs * F64.one1074) 1))

/-- pow2(k) = 2^k for every integer k from -1074 to 1023; sinTurns is 0, 1, 0, -1 at 0, 0.25, 0.5,
0.75 and cosTurns is 1 and 0 at 0 and 0.25. The rule gives these values; that each zero is the
pattern +0.0 is the model's reading (log 4, DEDUCED). (R11) -/
def Obligations.NumericFunctionsExactPoints : Prop :=
  (∀ k : Nat, k ≤ 1023 → pow2 (F64.ofInt k) = F64.ofNat (2 ^ k)) ∧
  (∀ k : Nat, k ≤ 1074 → pow2 (F64.ofInt (-(k : Int))) = F64.ofRat false 1 (2 ^ k)) ∧
  sinTurns F64.zero = F64.zero ∧ sinTurns quarter = F64.one ∧ sinTurns half = F64.zero ∧
  sinTurns threeQuarters = F64.one.neg ∧ cosTurns quarter = F64.zero ∧ cosTurns F64.zero = F64.one

/-- For every finite t, both functions answer a number between -1.0 and 1.0, whatever the free
choice of log 3 is. (R11, R181) -/
def Obligations.SineIsBounded : Prop :=
  ∀ t : F64, t.finite = true →
    within F64.one.neg F64.one (sinTurns t) = true ∧ within F64.one.neg F64.one (cosTurns t) = true

/-- For every note and octave, noteToFrequency(note, oct) = (440.0 × pow2((note - 69.0)/12.0)) /
(2.0 × oct if oct is not 0, else 1.0); so for every octave other than 0 it is
noteToFrequency(note, 0) / (2.0 × oct) bit for bit. The examples of the two rules: note 69 is
440.0, 81 is 880.0, 60 is 261.6255653005986 and at octave 1 130.8127826502993, 69 at octave 3 is
73.33333333333333 and at -1 is -220.0. (R150, R151) -/
def Obligations.NoteFrequencyReferencePitches : Prop :=
  (∀ (note : BitVec 7) (oct : Int),
    noteToFrequency note.toNat oct =
      F64.div
        (F64.mul (F64.ofNat 440)
          (pow2 (F64.div (F64.sub (F64.ofNat note.toNat) (F64.ofNat 69)) (F64.ofNat 12))))
        (if oct = 0 then F64.ofNat 1 else F64.mul (F64.ofNat 2) (F64.ofInt oct))) ∧
  (∀ (note : BitVec 7) (oct : Int), oct ≠ 0 →
    noteToFrequency note.toNat oct =
      F64.div (noteToFrequency note.toNat 0) (F64.mul (F64.ofNat 2) (F64.ofInt oct))) ∧
  noteToFrequency 69 0 = F64.ofNat 440 ∧ noteToFrequency 81 0 = F64.ofNat 880 ∧
  noteToFrequency 60 0 = F64.ofRat false 2616255653005986 (10 ^ 13) ∧
  noteToFrequency 60 1 = F64.ofRat false 1308127826502993 (10 ^ 13) ∧
  noteToFrequency 69 3 = F64.ofRat false 7333333333333333 (10 ^ 14) ∧
  noteToFrequency 69 (-1) = F64.ofInt (-220)

/-- With q = p + inc and w = q - floor(q), adv(p, inc) is 0.0 where w = 1.0 and w elsewhere. For
every phase in [0, 1) and every finite increment, of either sign and any size, it is a phase in
[0, 1). The six examples of the rule hold. (R158) -/
def Obligations.PhaseAdvanceStaysInUnitRange : Prop :=
  (∀ p inc : F64,
    let q := F64.add p inc
    let w := F64.sub q (F64.floor q)
    adv p inc = if F64.eq w F64.one then F64.zero else w) ∧
  (∀ p inc : F64, phaseOk p = true → inc.finite = true → phaseOk (adv p inc) = true) ∧
  sameValues
    [adv threeQuarters quarter, adv F64.zero quarter.neg, adv half (F64.ofRat false 11 4),
     adv quarter (F64.ofRat true 3 2), adv F64.zero (F64.ofRat true 1 (10 ^ 20)),
     adv (F64.ofRat false 1 10) (F64.ofRat false 2 10)]
    [F64.zero, threeQuarters, quarter, threeQuarters, F64.zero,
     F64.ofRat false 30000000000000004 (10 ^ 17)] = true

/-- For every p, wave(k, p) is the expression of the rule for each of the four codes; for every
phase in [0, 1) it is a number between -1.0 and 1.0; at the eight phases of the rule's table it
has the values listed there. (R159) -/
def Obligations.WaveformsStayWithinOne : Prop :=
  (∀ p : F64,
    wave .sine p = sinTurns p ∧
    wave .square p = (if F64.lt p half then F64.one else F64.one.neg) ∧
    wave .sawtooth p =
      (if F64.lt p half then F64.mul (F64.ofNat 2) p
       else F64.sub (F64.mul (F64.ofNat 2) p) (F64.ofNat 2)) ∧
    wave .triangle p =
      (if F64.lt p quarter then F64.mul (F64.ofNat 4) p
       else if F64.lt p threeQuarters then F64.sub (F64.ofNat 2) (F64.mul (F64.ofNat 4) p)
       else F64.sub (F64.mul (F64.ofNat 4) p) (F64.ofNat 4))) ∧
  (∀ (k : Waveform) (p : F64), phaseOk p = true →
    within F64.one.neg F64.one (wave k p) = true) ∧
  let eighths := fun k : Waveform => (List.range 8).map fun i => wave k (F64.ofRat false i 8)
  let r := F64.ofRat false 7071067811865476 (10 ^ 16)
  sameValues (eighths .sine)
    [F64.zero, r, F64.one, r, F64.zero, r.neg, F64.one.neg, r.neg] = true ∧
  sameValues (eighths .square)
    [F64.one, F64.one, F64.one, F64.one, F64.one.neg, F64.one.neg, F64.one.neg, F64.one.neg] =
      true ∧
  sameValues (eighths .sawtooth)
    [F64.zero, quarter, half, threeQuarters, F64.one.neg, threeQuarters.neg, half.neg,
     quarter.neg] = true ∧
  sameValues (eighths .triangle)
    [F64.zero, half, F64.one, half, F64.zero, half.neg, F64.one.neg, half.neg] = true

/-- For every legal configuration and every x, rampLen(x), read as a number of samples, is
rne(((x/127.0) × 5.0) × FS), so it fits its 64 bits; rampLen(0) = 0 and rampLen(127) = 5 × FS
exactly. The examples of the rule at FS 48000 and 25400 hold. (R191) -/
def Obligations.RampLengthEnds : Prop :=
  (∀ (c : Config) (x : BitVec 7), c.legal = true →
    ((rampLen c x).toNat : Int) =
      F64.rne (F64.mul (F64.mul (F64.div (F64.ofNat x.toNat) (F64.ofNat 127)) (F64.ofNat 5))
        (F64.ofNat c.fs))) ∧
  (∀ c : Config, c.legal = true →
    (rampLen c 0).toNat = 0 ∧ (rampLen c 127).toNat = 5 * c.fs) ∧
  (∀ c : Config,
    (c.fs = 48000 → rampLen c 1 = 1890 ∧ rampLen c 64 = 120945 ∧ rampLen c 127 = 240000) ∧
    (c.fs = 25400 → rampLen c 1 = 1000 ∧ rampLen c 2 = 2000))

/-- vgain(0) = 0.0, vgain(127) = 1.0, and for u <= v in [0, 127], vgain(u) <= vgain(v). (R154) -/
def Obligations.VelocityCurveIsMonotone : Prop :=
  vgain F64.zero = F64.zero ∧ vgain (F64.ofNat 127) = F64.one ∧
  ∀ u v : F64, within F64.zero (F64.ofNat 127) u = true → within F64.zero (F64.ofNat 127) v = true →
    F64.le u v = true → F64.le (vgain u) (vgain v) = true

/-- With no segment the gain is V0. At position j of a segment of n samples from a to b, j below n,
the gain is clamp(a + (b - a) × (j/n), min(a, b), max(a, b)): from V0 to SEG0_TGT in segment 0,
from SEG0_TGT to SEG1_TGT in segment 1. Past the last of one or two segments it is that
segment's target. ENV_STAGE is the function of R41. (R193, R194, R41, R202) -/
def Obligations.GainAndStageOfTheSchedule : Prop :=
  ∀ e : Env,
    let inside := fun (a b : F64) (j n : Nat) =>
      F64.clamp (F64.add a (F64.mul (F64.sub b a) (F64.div (F64.ofNat j) (F64.ofNat n))))
        (F64.min a b) (F64.max a b)
    (e.nseg = 0 → e.gain = e.v0) ∧
    (e.nseg ≠ 0 → e.k.toNat < e.seg0Len.toNat →
      e.gain = inside e.v0 e.seg0Tgt e.k.toNat e.seg0Len.toNat) ∧
    (e.nseg = 2 → e.seg0Len.toNat ≤ e.k.toNat →
      e.k.toNat < e.seg0Len.toNat + e.seg1Len.toNat →
      e.gain = inside e.seg0Tgt e.seg1Tgt (e.k.toNat - e.seg0Len.toNat) e.seg1Len.toNat) ∧
    (e.nseg = 1 → e.seg0Len.toNat ≤ e.k.toNat → e.gain = e.seg0Tgt) ∧
    (e.nseg = 2 → e.seg0Len.toNat + e.seg1Len.toNat ≤ e.k.toNat → e.gain = e.seg1Tgt) ∧
    e.stage =
      (if e.mode = .idle then .idle
       else if e.mode = .off ∧ e.seg0Len.toNat ≤ e.k.toNat then .idle
       else if e.mode = .off then .release
       else if e.k.toNat < e.seg0Len.toNat then .attack
       else if e.nseg = 2 ∧ e.k.toNat < e.seg0Len.toNat + e.seg1Len.toNat then .decay
       else .sustain)

/-- From clear delay registers the inputs 1, 0, 0, 0, 0, 0 give the six outputs listed in R241.
(R241) -/
def Obligations.LowpassImpulseResponse : Prop :=
  let c : Config := { fs := 48000, block := 1, fifoDepth := 64, oscOctave := 0, subOctave := 1 }
  let f0 := Flt.recompute c
    { (resetFlt c) with type := .lowpass, cutoff := F64.ofNat 12000, q := F64.one }
  let f1 := f0.shift F64.one
  let f2 := f1.shift F64.zero
  let f3 := f2.shift F64.zero
  let f4 := f3.shift F64.zero
  let f5 := f4.shift F64.zero
  let f6 := f5.shift F64.zero
  f1.y1 = F64.ofRat false 3333333333333333 (10 ^ 16) ∧
  f2.y1 = F64.ofRat false 6666666666666666 (10 ^ 16) ∧
  f3.y1 = F64.ofRat false 2222222222222222 (10 ^ 16) ∧
  f4.y1 = F64.ofRat true 2222222222222222 (10 ^ 16) ∧
  f5.y1 = F64.ofRat true 7407407407407407 (10 ^ 17) ∧
  f6.y1 = F64.ofRat false 7407407407407407 (10 ^ 17)

/-- For every command and state, if one of the command's error classes is one the table of R381
handles as ignored (E0, E1, E2, E3, E5, E7, E8, E9), the command completes and changes nothing;
a push in class E10 drops the word and sets OVF. That a FIFO longer than FIFO_DEPTH, which no
run reaches, counts as full is the model's choice (log 19). (R381) -/
def Obligations.IgnoredErrorClassesChangeNothing : Prop :=
  (∀ (i : Instr) (s : State) (e : ErrorClass), e ∈ errorClasses s i → e.ignored = true →
    exec i s = .next s) ∧
  (∀ (s : State) (w : CommandWord), ErrorClass.fifoFull ∈ pushClasses s →
    s.pushWord w = { s with ovf := true })

/-- With the sixteen bytes of a word as the host's next act, a step is the step that pushes the
word. Every sixteen bytes are a word and push it. A byte string of another length is refused by
name with its length: the model's reading and its refusal (logs 21 and 14). (R85, R81) -/
def Obligations.ByteActsMoveWholeWords : Prop :=
  (∀ (s : State) (w : CommandWord) (rest : List HostAction),
    s.outside.script = .pushBytes (bytesOfWord w) :: rest →
    step s = step { s with outside := { s.outside with script := .push w :: rest } }) ∧
  (∀ (s : State) (bs : List Byte) (rest : List HostAction),
    s.outside.script = .pushBytes bs :: rest →
    (bs.length = 16 → ∃ w, bytesOfWord w = bs ∧
      step s = step { s with outside := { s.outside with script := .push w :: rest } }) ∧
    (bs.length ≠ 16 → step s = .refused (.partialWord bs.length)))
end

