-- ==== Sys2Proof/Laws/Decode.lean ====
section
/-! SUPPORT. The fields of the words that the encoder builds (R112 to R114). -/

namespace Sys2Proof

@[simp] theorem midiWord_kind (len : BitVec 4) (b0 b1 b2 : Byte) :
    fieldKind (midiWord len b0 b1 b2) = 1 := by
  apply BitVec.eq_of_getLsbD_eq
  intro i hi
  simp only [fieldKind, midiWord, BitVec.getLsbD_extractLsb', BitVec.getLsbD_append]
  interval_cases i <;> simp

@[simp] theorem midiWord_len (len : BitVec 4) (b0 b1 b2 : Byte) :
    fieldLen (midiWord len b0 b1 b2) = len := by
  apply BitVec.eq_of_getLsbD_eq
  intro i hi
  simp only [fieldLen, midiWord, BitVec.getLsbD_extractLsb', BitVec.getLsbD_append]
  interval_cases i <;> simp

@[simp] theorem midiWord_b0 (len : BitVec 4) (b0 b1 b2 : Byte) :
    fieldB0 (midiWord len b0 b1 b2) = b0 := by
  apply BitVec.eq_of_getLsbD_eq
  intro i hi
  simp only [fieldB0, midiWord, BitVec.getLsbD_extractLsb', BitVec.getLsbD_append]
  interval_cases i <;> simp

@[simp] theorem midiWord_b1 (len : BitVec 4) (b0 b1 b2 : Byte) :
    fieldB1 (midiWord len b0 b1 b2) = b1 := by
  apply BitVec.eq_of_getLsbD_eq
  intro i hi
  simp only [fieldB1, midiWord, BitVec.getLsbD_extractLsb', BitVec.getLsbD_append]
  interval_cases i <;> simp

@[simp] theorem midiWord_b2 (len : BitVec 4) (b0 b1 b2 : Byte) :
    fieldB2 (midiWord len b0 b1 b2) = b2 := by
  apply BitVec.eq_of_getLsbD_eq
  intro i hi
  simp only [fieldB2, midiWord, BitVec.getLsbD_extractLsb', BitVec.getLsbD_append]
  interval_cases i <;> simp

@[simp] theorem paramWord_kind (dest : BitVec 4) (par : BitVec 8) (v : F64) :
    fieldKind (paramWord dest par v) = 2 := by
  apply BitVec.eq_of_getLsbD_eq
  intro i hi
  simp only [fieldKind, paramWord, BitVec.getLsbD_extractLsb', BitVec.getLsbD_append]
  interval_cases i <;> simp

@[simp] theorem paramWord_dest (dest : BitVec 4) (par : BitVec 8) (v : F64) :
    fieldDest (paramWord dest par v) = dest := by
  apply BitVec.eq_of_getLsbD_eq
  intro i hi
  simp only [fieldDest, paramWord, BitVec.getLsbD_extractLsb', BitVec.getLsbD_append]
  interval_cases i <;> simp

@[simp] theorem paramWord_param (dest : BitVec 4) (par : BitVec 8) (v : F64) :
    fieldParam (paramWord dest par v) = par := by
  apply BitVec.eq_of_getLsbD_eq
  intro i hi
  simp only [fieldParam, paramWord, BitVec.getLsbD_extractLsb', BitVec.getLsbD_append]
  interval_cases i <;> simp

@[simp] theorem paramWord_value (dest : BitVec 4) (par : BitVec 8) (v : F64) :
    fieldValue (paramWord dest par v) = v := by
  cases v with
  | mk b =>
    unfold fieldValue
    congr 1
    apply BitVec.eq_of_getLsbD_eq
    intro i hi
    simp only [paramWord, BitVec.getLsbD_extractLsb', BitVec.getLsbD_append]
    simp [hi]

@[simp] theorem kindWord_kind (k : BitVec 4) : fieldKind (kindWord k) = k := by
  apply BitVec.eq_of_getLsbD_eq
  intro i hi
  simp only [fieldKind, kindWord, BitVec.getLsbD_extractLsb', BitVec.getLsbD_append]
  interval_cases i <;> simp

end Sys2Proof
end

