-- ==== Sys2Proof/Laws/Float64.lean ====
section
/-! SUPPORT. Lemmas about binary64 patterns and rounding: the parts of a built value, rounding is
monotone, and rounding a representable value gives that value. -/

namespace Sys2Proof

/-! ### The parts of a value -/

theorem F64.mag_lt (x : F64) : x.mag < 2 ^ 63 := Nat.mod_lt _ (by decide)

theorem F64.infMag_lt : F64.infMag < 2 ^ 63 := by decide

@[simp] theorem F64.sign_ofMag (s : Bool) (m : Nat) : (F64.ofMag s m).sign = s := by
  unfold F64.sign F64.ofMag
  rw [BitVec.msb_eq_getLsbD_last, BitVec.getLsbD_append]
  simp

theorem F64.mag_ofMag (s : Bool) {m : Nat} (h : m < 2 ^ 63) : (F64.ofMag s m).mag = m := by
  unfold F64.mag F64.ofMag
  apply Nat.eq_of_testBit_eq
  intro i
  rw [Nat.testBit_mod_two_pow, BitVec.testBit_toNat, BitVec.getLsbD_append]
  by_cases hi : i < 63
  · rw [if_pos hi, BitVec.getLsbD_ofNat]
    simp [hi]
  · have hm : m < 2 ^ i :=
      Nat.lt_of_lt_of_le h (Nat.pow_le_pow_right (by decide) (Nat.le_of_not_lt hi))
    simp [hi, Nat.testBit_lt_two_pow hm]

theorem F64.mag_ofMag_le_inf (s : Bool) {m : Nat} (h : m ≤ F64.infMag) :
    (F64.ofMag s m).mag = m :=
  F64.mag_ofMag s (Nat.lt_of_le_of_lt h F64.infMag_lt)

theorem F64.ofMag_sign_mag (x : F64) : F64.ofMag x.sign x.mag = x := by
  cases x with
  | mk b =>
    unfold F64.ofMag F64.sign F64.mag
    congr 1
    apply BitVec.eq_of_getLsbD_eq
    intro i hi
    simp only [BitVec.getLsbD_append, BitVec.getLsbD_ofNat, BitVec.getLsbD_ofBool,
      Nat.testBit_mod_two_pow, BitVec.testBit_toNat]
    by_cases h : i < 63
    · simp [h]
    · have : i = 63 := by omega
      subst this
      simp [BitVec.msb_eq_getLsbD_last]

/-! ### Units -/

theorem F64.unitExp_eq : F64.unitExp = 1074 := by rw [F64.unitExp]

theorem F64.unitsProduct_eq (a b : Nat) : F64.unitsProduct a b = a * b := by
  unfold F64.unitsProduct
  rw [Nat.mul_comm b a, ite_self]

theorem F64.one1074_pos : 0 < F64.one1074 := Nat.two_pow_pos _

/-! ### Negation and finite values -/

theorem F64.mag_neg (x : F64) : x.neg.mag = x.mag := F64.mag_ofMag _ x.mag_lt

theorem F64.sign_neg (x : F64) : x.neg.sign = !x.sign := F64.sign_ofMag _ _

theorem F64.signedUnits_neg (x : F64) : x.neg.signedUnits = -x.signedUnits := by
  unfold F64.signedUnits F64.units
  rw [F64.mag_neg, F64.sign_neg]
  cases x.sign <;> simp

/-- A finite value is a number and no infinity (R18). -/
theorem F64.finite_not {x : F64} (h : x.finite = true) : x.isNaN = false ∧ x.isInf = false := by
  simp only [F64.finite, F64.isNaN, F64.isInf, decide_eq_true_eq, decide_eq_false_iff_not] at *
  omega

/-! ### Rounding to a whole number -/

theorem F64.rneDiv_ge (n d : Nat) : n / d ≤ F64.rneDiv n d := by
  unfold F64.rneDiv
  split
  · exact Nat.le_refl _
  · split <;> omega

theorem F64.rneDiv_le (n d : Nat) : F64.rneDiv n d ≤ n / d + 1 := by
  unfold F64.rneDiv
  have := Nat.mod_lt (n / d) (show 2 > 0 by decide)
  split
  · omega
  · split <;> omega

theorem F64.rneDiv_mul (m : Nat) {d : Nat} (hd : 0 < d) : F64.rneDiv (m * d) d = m := by
  unfold F64.rneDiv
  simp [hd]

theorem div_le_div_of_cross {n d n' d' : Nat} (hd : 0 < d) (hd' : 0 < d')
    (h : n * d' ≤ n' * d) : n / d ≤ n' / d' := by
  rw [Nat.le_div_iff_mul_le hd']
  have h1 : n / d * d ≤ n := Nat.div_mul_le_self n d
  have h2 : n / d * d' * d ≤ n' * d := by
    calc n / d * d' * d = n / d * d * d' := by ring
      _ ≤ n * d' := Nat.mul_le_mul_right _ h1
      _ ≤ n' * d := h
  exact Nat.le_of_mul_le_mul_right h2 hd

theorem F64.rneDiv_mono {n d n' d' : Nat} (hd : 0 < d) (hd' : 0 < d') (h : n * d' ≤ n' * d) :
    F64.rneDiv n d ≤ F64.rneDiv n' d' := by
  have hq := div_le_div_of_cross hd hd' h
  rcases Nat.lt_or_eq_of_le hq with hlt | heq
  · exact Nat.le_trans (F64.rneDiv_le n d) (Nat.le_trans hlt (F64.rneDiv_ge n' d'))
  · have e1 := Nat.div_add_mod n d
    have e2 := Nat.div_add_mod n' d'
    have hr : n % d * d' ≤ n' % d' * d := by
      rw [← e1, ← e2, heq] at h
      nlinarith [h]
    have key : ∀ {a b : Nat}, a * (n % d) * d' ≤ a * (n' % d') * d := by
      intro a _
      calc a * (n % d) * d' = a * (n % d * d') := by ring
        _ ≤ a * (n' % d' * d) := Nat.mul_le_mul_left _ hr
        _ = a * (n' % d') * d := by ring
    have key2 := @key 2 0
    unfold F64.rneDiv
    rw [heq]
    by_cases c1 : 2 * (n % d) < d
    · rw [if_pos c1]
      split
      · exact Nat.le_refl _
      · split <;> omega
    · rw [if_neg c1]
      have c1' : d ≤ 2 * (n % d) := Nat.le_of_not_lt c1
      have c2 : d' ≤ 2 * (n' % d') := by
        have : d * d' ≤ 2 * (n' % d') * d :=
          Nat.le_trans (Nat.mul_le_mul_right d' c1') key2
        rw [Nat.mul_comm d d'] at this
        exact Nat.le_of_mul_le_mul_right this hd
      rw [if_neg (Nat.not_lt.mpr c2)]
      by_cases c3 : d < 2 * (n % d)
      · have c4 : d' < 2 * (n' % d') := by
          have : d * d' < 2 * (n' % d') * d :=
            Nat.lt_of_lt_of_le (Nat.mul_lt_mul_of_pos_right c3 hd') key2
          rw [Nat.mul_comm d d'] at this
          exact Nat.lt_of_mul_lt_mul_right this
        rw [if_pos c3, if_pos c4]
      · rw [if_neg c3]
        have := Nat.mod_lt (n' / d') (show 2 > 0 by decide)
        split <;> omega

/-! ### Rounding to binary64 -/

/-- The binade shift that `roundMag` takes for a whole part `q`. -/
theorem F64.shift_bounds {q : Nat} (h : 2 ^ 53 ≤ q) :
    2 ^ 52 * 2 ^ (q.log2 - 52) ≤ q ∧ q < 2 ^ 53 * 2 ^ (q.log2 - 52) := by
  have hq : q ≠ 0 := by intro h0; subst h0; simp at h
  have hl : 53 ≤ q.log2 := (Nat.le_log2 hq).mpr h
  constructor
  · rw [← Nat.pow_add, show 52 + (q.log2 - 52) = q.log2 by omega]
    exact Nat.log2_self_le hq
  · rw [← Nat.pow_add, show 53 + (q.log2 - 52) = q.log2 + 1 by omega]
    exact Nat.lt_log2_self

theorem F64.shift_zero {q : Nat} (h : q < 2 ^ 53) : q.log2 - 52 = 0 := by
  rcases Nat.eq_zero_or_pos q with h0 | h0
  · subst h0; decide
  · have : q.log2 < 53 := (Nat.log2_lt (by omega)).mpr h
    omega

/-- The significand that `roundMag` rounds lies in its binade: below 2^53, and from 2^52 on unless
the binade is the lowest. -/
theorem F64.significand_bounds (n d : Nat) :
    F64.rneDiv n (d * 2 ^ ((n / d).log2 - 52)) ≤ 2 ^ 53 ∧
    (0 < (n / d).log2 - 52 → 2 ^ 52 ≤ F64.rneDiv n (d * 2 ^ ((n / d).log2 - 52))) := by
  have hdiv : ∀ k, n / (d * 2 ^ k) = n / d / 2 ^ k := fun k => by rw [Nat.div_div_eq_div_mul]
  by_cases h : n / d < 2 ^ 53
  · have h0 := F64.shift_zero h
    rw [h0]
    refine ⟨?_, by omega⟩
    have := F64.rneDiv_le n (d * 2 ^ 0)
    rw [hdiv] at this
    omega
  · obtain ⟨h1, h2⟩ := F64.shift_bounds (Nat.le_of_not_lt h)
    have hp : 0 < 2 ^ ((n / d).log2 - 52) := Nat.two_pow_pos _
    have hlo : 2 ^ 52 ≤ n / d / 2 ^ ((n / d).log2 - 52) := (Nat.le_div_iff_mul_le hp).mpr h1
    have hhi : n / d / 2 ^ ((n / d).log2 - 52) < 2 ^ 53 := (Nat.div_lt_iff_lt_mul hp).mpr h2
    have g1 := F64.rneDiv_ge n (d * 2 ^ ((n / d).log2 - 52))
    have g2 := F64.rneDiv_le n (d * 2 ^ ((n / d).log2 - 52))
    rw [hdiv] at g1 g2
    exact ⟨by omega, fun _ => by omega⟩

theorem F64.roundMag_le_inf (n d : Nat) : F64.roundMag n d ≤ F64.infMag := by
  unfold F64.roundMag
  exact Nat.min_le_right _ _

/-- Rounding is monotone in the real number `n / d`. -/
theorem F64.roundMag_mono {n d n' d' : Nat} (hd : 0 < d) (hd' : 0 < d') (h : n * d' ≤ n' * d) :
    F64.roundMag n d ≤ F64.roundMag n' d' := by
  unfold F64.roundMag
  refine min_le_min ?_ (Nat.le_refl _)
  have hq := div_le_div_of_cross hd hd' h
  have hlog : (n / d).log2 - 52 ≤ (n' / d').log2 - 52 := by
    rcases Nat.eq_zero_or_pos (n / d) with h0 | h0
    · rw [h0]; simp
    · have : (n / d).log2 ≤ (n' / d').log2 := by
        rw [Nat.le_log2 (by omega)]
        exact Nat.le_trans (Nat.log2_self_le (by omega)) hq
      omega
  obtain ⟨a1, a2⟩ := F64.significand_bounds n d
  obtain ⟨b1, b2⟩ := F64.significand_bounds n' d'
  rcases Nat.lt_or_eq_of_le hlog with hlt | heq
  · have := b2 (by omega)
    omega
  · rw [← heq] at *
    have : F64.rneDiv n (d * 2 ^ ((n / d).log2 - 52)) ≤
        F64.rneDiv n' (d' * 2 ^ ((n / d).log2 - 52)) := by
      apply F64.rneDiv_mono
      · exact Nat.mul_pos hd (Nat.two_pow_pos _)
      · exact Nat.mul_pos hd' (Nat.two_pow_pos _)
      · calc n * (d' * 2 ^ ((n / d).log2 - 52)) = n * d' * 2 ^ ((n / d).log2 - 52) := by ring
          _ ≤ n' * d * 2 ^ ((n / d).log2 - 52) := Nat.mul_le_mul_right _ h
          _ = n' * (d * 2 ^ ((n / d).log2 - 52)) := by ring
    omega

theorem F64.magUnits_of_lt {m : Nat} (h : m < 2 ^ 52) : F64.magUnits m = m := by
  unfold F64.magUnits
  rw [if_pos (Nat.div_eq_of_lt h), Nat.mod_eq_of_lt h]

theorem F64.magUnits_of_ge {m : Nat} (h : 2 ^ 52 ≤ m) :
    F64.magUnits m = (2 ^ 52 + m % 2 ^ 52) * 2 ^ (m / 2 ^ 52 - 1) := by
  unfold F64.magUnits
  rw [if_neg]
  have := (Nat.le_div_iff_mul_le (show 0 < 2 ^ 52 by decide)).mpr (show 1 * 2 ^ 52 ≤ m by omega)
  omega

/-- Rounding a representable value gives that value. -/
theorem F64.roundMag_magUnits {m d : Nat} (hd : 0 < d) (hm : m ≤ F64.infMag) :
    F64.roundMag (F64.magUnits m * d) d = m := by
  unfold F64.roundMag
  rw [Nat.mul_div_cancel _ hd]
  by_cases h : m < 2 ^ 52
  · rw [F64.magUnits_of_lt h, F64.shift_zero (by omega), Nat.pow_zero, Nat.mul_one,
      F64.rneDiv_mul m hd]
    omega
  · rw [F64.magUnits_of_ge (Nat.le_of_not_lt h)]
    have he : 1 ≤ m / 2 ^ 52 :=
      (Nat.le_div_iff_mul_le (show 0 < 2 ^ 52 by decide)).mpr (by omega)
    have hf : m % 2 ^ 52 < 2 ^ 52 := Nat.mod_lt _ (by decide)
    have hlog : ((2 ^ 52 + m % 2 ^ 52) * 2 ^ (m / 2 ^ 52 - 1)).log2 = 52 + (m / 2 ^ 52 - 1) := by
      rw [Nat.log2_eq_iff (by positivity)]
      constructor
      · rw [Nat.pow_add]
        exact Nat.mul_le_mul_right _ (by omega)
      · rw [show 52 + (m / 2 ^ 52 - 1) + 1 = 53 + (m / 2 ^ 52 - 1) by omega, Nat.pow_add]
        exact Nat.mul_lt_mul_of_pos_right (by omega) (Nat.two_pow_pos _)
    rw [hlog, show 52 + (m / 2 ^ 52 - 1) - 52 = m / 2 ^ 52 - 1 by omega,
      show (2 ^ 52 + m % 2 ^ 52) * 2 ^ (m / 2 ^ 52 - 1) * d =
        (2 ^ 52 + m % 2 ^ 52) * (d * 2 ^ (m / 2 ^ 52 - 1)) by ring,
      F64.rneDiv_mul _ (Nat.mul_pos hd (Nat.two_pow_pos _))]
    have := Nat.div_add_mod m (2 ^ 52)
    omega

/-! ### Clamping -/

theorem F64.le_of_lt_false {a b : F64} (ha : a.isNaN = false) (hb : b.isNaN = false)
    (h : F64.lt a b = false) : F64.le b a = true := by
  simp only [F64.lt, F64.le, ha, hb, Bool.not_false, Bool.true_and, decide_eq_false_iff_not,
    decide_eq_true_eq] at *
  omega

/-- A value that is not NaN, clamped to a range, is in the range. -/
theorem F64.clamp_range {v lo hi : F64} (hv : v.isNaN = false) (hlo : lo.isNaN = false)
    (hhi : hi.isNaN = false) (h : F64.le lo hi = true) :
    F64.le lo (F64.clamp v lo hi) = true ∧ F64.le (F64.clamp v lo hi) hi = true := by
  have refl : ∀ {x : F64}, x.isNaN = false → F64.le x x = true := by
    intro x hx
    simp [F64.le, hx]
  unfold F64.clamp
  split
  · exact ⟨refl hlo, h⟩
  · rename_i h1
    split
    · exact ⟨h, refl hhi⟩
    · rename_i h2
      exact ⟨F64.le_of_lt_false hv hlo (by simpa using h1),
        F64.le_of_lt_false hhi hv (by simpa using h2)⟩

end Sys2Proof
end

