-- ==== Sys2Proof/Laws/State.lean ====
section
/-! SUPPORT. One lemma for each field and each update of the state, true by definition. -/

namespace Sys2Proof.Machine

@[simp] theorem State.setOsc_sampleCount (s : State) (o : Osc) : (s.setOsc o).sampleCount = s.sampleCount := (rfl)
@[simp] theorem State.setOsc_osc (s : State) (o : Osc) : (s.setOsc o).osc = o := (rfl)
@[simp] theorem State.setOsc_sub (s : State) (o : Osc) : (s.setOsc o).sub = s.sub := (rfl)
@[simp] theorem State.setOsc_lfo (s : State) (o : Osc) : (s.setOsc o).lfo = s.lfo := (rfl)
@[simp] theorem State.setOsc_flt (s : State) (o : Osc) : (s.setOsc o).flt = s.flt := (rfl)
@[simp] theorem State.setOsc_env (s : State) (o : Osc) : (s.setOsc o).env = s.env := (rfl)
@[simp] theorem State.setOsc_noteActive (s : State) (o : Osc) : (s.setOsc o).noteActive = s.noteActive := (rfl)
@[simp] theorem State.setOsc_noteLast (s : State) (o : Osc) : (s.setOsc o).noteLast = s.noteLast := (rfl)
@[simp] theorem State.setOsc_ovf (s : State) (o : Osc) : (s.setOsc o).ovf = s.ovf := (rfl)
@[simp] theorem State.setOsc_cfg (s : State) (o : Osc) : (s.setOsc o).cfg = s.cfg := (rfl)
@[simp] theorem State.setOsc_fifo (s : State) (o : Osc) : (s.setOsc o).fifo = s.fifo := (rfl)
@[simp] theorem State.setOsc_snapshot (s : State) (o : Osc) : (s.setOsc o).snapshot = s.snapshot := (rfl)
@[simp] theorem State.setOsc_seq (s : State) (o : Osc) : (s.setOsc o).seq = s.seq := (rfl)
@[simp] theorem State.setOsc_outside (s : State) (o : Osc) : (s.setOsc o).outside = s.outside := (rfl)

@[simp] theorem State.setSub_sampleCount (s : State) (o : Osc) : (s.setSub o).sampleCount = s.sampleCount := (rfl)
@[simp] theorem State.setSub_osc (s : State) (o : Osc) : (s.setSub o).osc = s.osc := (rfl)
@[simp] theorem State.setSub_sub (s : State) (o : Osc) : (s.setSub o).sub = o := (rfl)
@[simp] theorem State.setSub_lfo (s : State) (o : Osc) : (s.setSub o).lfo = s.lfo := (rfl)
@[simp] theorem State.setSub_flt (s : State) (o : Osc) : (s.setSub o).flt = s.flt := (rfl)
@[simp] theorem State.setSub_env (s : State) (o : Osc) : (s.setSub o).env = s.env := (rfl)
@[simp] theorem State.setSub_noteActive (s : State) (o : Osc) : (s.setSub o).noteActive = s.noteActive := (rfl)
@[simp] theorem State.setSub_noteLast (s : State) (o : Osc) : (s.setSub o).noteLast = s.noteLast := (rfl)
@[simp] theorem State.setSub_ovf (s : State) (o : Osc) : (s.setSub o).ovf = s.ovf := (rfl)
@[simp] theorem State.setSub_cfg (s : State) (o : Osc) : (s.setSub o).cfg = s.cfg := (rfl)
@[simp] theorem State.setSub_fifo (s : State) (o : Osc) : (s.setSub o).fifo = s.fifo := (rfl)
@[simp] theorem State.setSub_snapshot (s : State) (o : Osc) : (s.setSub o).snapshot = s.snapshot := (rfl)
@[simp] theorem State.setSub_seq (s : State) (o : Osc) : (s.setSub o).seq = s.seq := (rfl)
@[simp] theorem State.setSub_outside (s : State) (o : Osc) : (s.setSub o).outside = s.outside := (rfl)

@[simp] theorem State.setLfo_sampleCount (s : State) (o : Lfo) : (s.setLfo o).sampleCount = s.sampleCount := (rfl)
@[simp] theorem State.setLfo_osc (s : State) (o : Lfo) : (s.setLfo o).osc = s.osc := (rfl)
@[simp] theorem State.setLfo_sub (s : State) (o : Lfo) : (s.setLfo o).sub = s.sub := (rfl)
@[simp] theorem State.setLfo_lfo (s : State) (o : Lfo) : (s.setLfo o).lfo = o := (rfl)
@[simp] theorem State.setLfo_flt (s : State) (o : Lfo) : (s.setLfo o).flt = s.flt := (rfl)
@[simp] theorem State.setLfo_env (s : State) (o : Lfo) : (s.setLfo o).env = s.env := (rfl)
@[simp] theorem State.setLfo_noteActive (s : State) (o : Lfo) : (s.setLfo o).noteActive = s.noteActive := (rfl)
@[simp] theorem State.setLfo_noteLast (s : State) (o : Lfo) : (s.setLfo o).noteLast = s.noteLast := (rfl)
@[simp] theorem State.setLfo_ovf (s : State) (o : Lfo) : (s.setLfo o).ovf = s.ovf := (rfl)
@[simp] theorem State.setLfo_cfg (s : State) (o : Lfo) : (s.setLfo o).cfg = s.cfg := (rfl)
@[simp] theorem State.setLfo_fifo (s : State) (o : Lfo) : (s.setLfo o).fifo = s.fifo := (rfl)
@[simp] theorem State.setLfo_snapshot (s : State) (o : Lfo) : (s.setLfo o).snapshot = s.snapshot := (rfl)
@[simp] theorem State.setLfo_seq (s : State) (o : Lfo) : (s.setLfo o).seq = s.seq := (rfl)
@[simp] theorem State.setLfo_outside (s : State) (o : Lfo) : (s.setLfo o).outside = s.outside := (rfl)

@[simp] theorem State.setFlt_sampleCount (s : State) (f : Flt) : (s.setFlt f).sampleCount = s.sampleCount := (rfl)
@[simp] theorem State.setFlt_osc (s : State) (f : Flt) : (s.setFlt f).osc = s.osc := (rfl)
@[simp] theorem State.setFlt_sub (s : State) (f : Flt) : (s.setFlt f).sub = s.sub := (rfl)
@[simp] theorem State.setFlt_lfo (s : State) (f : Flt) : (s.setFlt f).lfo = s.lfo := (rfl)
@[simp] theorem State.setFlt_flt (s : State) (f : Flt) : (s.setFlt f).flt = f := (rfl)
@[simp] theorem State.setFlt_env (s : State) (f : Flt) : (s.setFlt f).env = s.env := (rfl)
@[simp] theorem State.setFlt_noteActive (s : State) (f : Flt) : (s.setFlt f).noteActive = s.noteActive := (rfl)
@[simp] theorem State.setFlt_noteLast (s : State) (f : Flt) : (s.setFlt f).noteLast = s.noteLast := (rfl)
@[simp] theorem State.setFlt_ovf (s : State) (f : Flt) : (s.setFlt f).ovf = s.ovf := (rfl)
@[simp] theorem State.setFlt_cfg (s : State) (f : Flt) : (s.setFlt f).cfg = s.cfg := (rfl)
@[simp] theorem State.setFlt_fifo (s : State) (f : Flt) : (s.setFlt f).fifo = s.fifo := (rfl)
@[simp] theorem State.setFlt_snapshot (s : State) (f : Flt) : (s.setFlt f).snapshot = s.snapshot := (rfl)
@[simp] theorem State.setFlt_seq (s : State) (f : Flt) : (s.setFlt f).seq = s.seq := (rfl)
@[simp] theorem State.setFlt_outside (s : State) (f : Flt) : (s.setFlt f).outside = s.outside := (rfl)

@[simp] theorem State.setEnv_sampleCount (s : State) (e : Env) : (s.setEnv e).sampleCount = s.sampleCount := (rfl)
@[simp] theorem State.setEnv_osc (s : State) (e : Env) : (s.setEnv e).osc = s.osc := (rfl)
@[simp] theorem State.setEnv_sub (s : State) (e : Env) : (s.setEnv e).sub = s.sub := (rfl)
@[simp] theorem State.setEnv_lfo (s : State) (e : Env) : (s.setEnv e).lfo = s.lfo := (rfl)
@[simp] theorem State.setEnv_flt (s : State) (e : Env) : (s.setEnv e).flt = s.flt := (rfl)
@[simp] theorem State.setEnv_env (s : State) (e : Env) : (s.setEnv e).env = e := (rfl)
@[simp] theorem State.setEnv_noteActive (s : State) (e : Env) : (s.setEnv e).noteActive = s.noteActive := (rfl)
@[simp] theorem State.setEnv_noteLast (s : State) (e : Env) : (s.setEnv e).noteLast = s.noteLast := (rfl)
@[simp] theorem State.setEnv_ovf (s : State) (e : Env) : (s.setEnv e).ovf = s.ovf := (rfl)
@[simp] theorem State.setEnv_cfg (s : State) (e : Env) : (s.setEnv e).cfg = s.cfg := (rfl)
@[simp] theorem State.setEnv_fifo (s : State) (e : Env) : (s.setEnv e).fifo = s.fifo := (rfl)
@[simp] theorem State.setEnv_snapshot (s : State) (e : Env) : (s.setEnv e).snapshot = s.snapshot := (rfl)
@[simp] theorem State.setEnv_seq (s : State) (e : Env) : (s.setEnv e).seq = s.seq := (rfl)
@[simp] theorem State.setEnv_outside (s : State) (e : Env) : (s.setEnv e).outside = s.outside := (rfl)

@[simp] theorem State.setNoteActive_sampleCount (s : State) (a : BitVec 128) : (s.setNoteActive a).sampleCount = s.sampleCount := (rfl)
@[simp] theorem State.setNoteActive_osc (s : State) (a : BitVec 128) : (s.setNoteActive a).osc = s.osc := (rfl)
@[simp] theorem State.setNoteActive_sub (s : State) (a : BitVec 128) : (s.setNoteActive a).sub = s.sub := (rfl)
@[simp] theorem State.setNoteActive_lfo (s : State) (a : BitVec 128) : (s.setNoteActive a).lfo = s.lfo := (rfl)
@[simp] theorem State.setNoteActive_flt (s : State) (a : BitVec 128) : (s.setNoteActive a).flt = s.flt := (rfl)
@[simp] theorem State.setNoteActive_env (s : State) (a : BitVec 128) : (s.setNoteActive a).env = s.env := (rfl)
@[simp] theorem State.setNoteActive_noteActive (s : State) (a : BitVec 128) : (s.setNoteActive a).noteActive = a := (rfl)
@[simp] theorem State.setNoteActive_noteLast (s : State) (a : BitVec 128) : (s.setNoteActive a).noteLast = s.noteLast := (rfl)
@[simp] theorem State.setNoteActive_ovf (s : State) (a : BitVec 128) : (s.setNoteActive a).ovf = s.ovf := (rfl)
@[simp] theorem State.setNoteActive_cfg (s : State) (a : BitVec 128) : (s.setNoteActive a).cfg = s.cfg := (rfl)
@[simp] theorem State.setNoteActive_fifo (s : State) (a : BitVec 128) : (s.setNoteActive a).fifo = s.fifo := (rfl)
@[simp] theorem State.setNoteActive_snapshot (s : State) (a : BitVec 128) : (s.setNoteActive a).snapshot = s.snapshot := (rfl)
@[simp] theorem State.setNoteActive_seq (s : State) (a : BitVec 128) : (s.setNoteActive a).seq = s.seq := (rfl)
@[simp] theorem State.setNoteActive_outside (s : State) (a : BitVec 128) : (s.setNoteActive a).outside = s.outside := (rfl)

@[simp] theorem State.setNoteLast_sampleCount (s : State) (v : BitVec 32) : (s.setNoteLast v).sampleCount = s.sampleCount := (rfl)
@[simp] theorem State.setNoteLast_osc (s : State) (v : BitVec 32) : (s.setNoteLast v).osc = s.osc := (rfl)
@[simp] theorem State.setNoteLast_sub (s : State) (v : BitVec 32) : (s.setNoteLast v).sub = s.sub := (rfl)
@[simp] theorem State.setNoteLast_lfo (s : State) (v : BitVec 32) : (s.setNoteLast v).lfo = s.lfo := (rfl)
@[simp] theorem State.setNoteLast_flt (s : State) (v : BitVec 32) : (s.setNoteLast v).flt = s.flt := (rfl)
@[simp] theorem State.setNoteLast_env (s : State) (v : BitVec 32) : (s.setNoteLast v).env = s.env := (rfl)
@[simp] theorem State.setNoteLast_noteActive (s : State) (v : BitVec 32) : (s.setNoteLast v).noteActive = s.noteActive := (rfl)
@[simp] theorem State.setNoteLast_noteLast (s : State) (v : BitVec 32) : (s.setNoteLast v).noteLast = v := (rfl)
@[simp] theorem State.setNoteLast_ovf (s : State) (v : BitVec 32) : (s.setNoteLast v).ovf = s.ovf := (rfl)
@[simp] theorem State.setNoteLast_cfg (s : State) (v : BitVec 32) : (s.setNoteLast v).cfg = s.cfg := (rfl)
@[simp] theorem State.setNoteLast_fifo (s : State) (v : BitVec 32) : (s.setNoteLast v).fifo = s.fifo := (rfl)
@[simp] theorem State.setNoteLast_snapshot (s : State) (v : BitVec 32) : (s.setNoteLast v).snapshot = s.snapshot := (rfl)
@[simp] theorem State.setNoteLast_seq (s : State) (v : BitVec 32) : (s.setNoteLast v).seq = s.seq := (rfl)
@[simp] theorem State.setNoteLast_outside (s : State) (v : BitVec 32) : (s.setNoteLast v).outside = s.outside := (rfl)

@[simp] theorem State.setFifo_sampleCount (s : State) (q : List CommandWord) : (s.setFifo q).sampleCount = s.sampleCount := (rfl)
@[simp] theorem State.setFifo_osc (s : State) (q : List CommandWord) : (s.setFifo q).osc = s.osc := (rfl)
@[simp] theorem State.setFifo_sub (s : State) (q : List CommandWord) : (s.setFifo q).sub = s.sub := (rfl)
@[simp] theorem State.setFifo_lfo (s : State) (q : List CommandWord) : (s.setFifo q).lfo = s.lfo := (rfl)
@[simp] theorem State.setFifo_flt (s : State) (q : List CommandWord) : (s.setFifo q).flt = s.flt := (rfl)
@[simp] theorem State.setFifo_env (s : State) (q : List CommandWord) : (s.setFifo q).env = s.env := (rfl)
@[simp] theorem State.setFifo_noteActive (s : State) (q : List CommandWord) : (s.setFifo q).noteActive = s.noteActive := (rfl)
@[simp] theorem State.setFifo_noteLast (s : State) (q : List CommandWord) : (s.setFifo q).noteLast = s.noteLast := (rfl)
@[simp] theorem State.setFifo_ovf (s : State) (q : List CommandWord) : (s.setFifo q).ovf = s.ovf := (rfl)
@[simp] theorem State.setFifo_cfg (s : State) (q : List CommandWord) : (s.setFifo q).cfg = s.cfg := (rfl)
@[simp] theorem State.setFifo_fifo (s : State) (q : List CommandWord) : (s.setFifo q).fifo = q := (rfl)
@[simp] theorem State.setFifo_snapshot (s : State) (q : List CommandWord) : (s.setFifo q).snapshot = s.snapshot := (rfl)
@[simp] theorem State.setFifo_seq (s : State) (q : List CommandWord) : (s.setFifo q).seq = s.seq := (rfl)
@[simp] theorem State.setFifo_outside (s : State) (q : List CommandWord) : (s.setFifo q).outside = s.outside := (rfl)

@[simp] theorem State.setOvf_sampleCount (s : State) (b : Bool) : (s.setOvf b).sampleCount = s.sampleCount := (rfl)
@[simp] theorem State.setOvf_osc (s : State) (b : Bool) : (s.setOvf b).osc = s.osc := (rfl)
@[simp] theorem State.setOvf_sub (s : State) (b : Bool) : (s.setOvf b).sub = s.sub := (rfl)
@[simp] theorem State.setOvf_lfo (s : State) (b : Bool) : (s.setOvf b).lfo = s.lfo := (rfl)
@[simp] theorem State.setOvf_flt (s : State) (b : Bool) : (s.setOvf b).flt = s.flt := (rfl)
@[simp] theorem State.setOvf_env (s : State) (b : Bool) : (s.setOvf b).env = s.env := (rfl)
@[simp] theorem State.setOvf_noteActive (s : State) (b : Bool) : (s.setOvf b).noteActive = s.noteActive := (rfl)
@[simp] theorem State.setOvf_noteLast (s : State) (b : Bool) : (s.setOvf b).noteLast = s.noteLast := (rfl)
@[simp] theorem State.setOvf_ovf (s : State) (b : Bool) : (s.setOvf b).ovf = b := (rfl)
@[simp] theorem State.setOvf_cfg (s : State) (b : Bool) : (s.setOvf b).cfg = s.cfg := (rfl)
@[simp] theorem State.setOvf_fifo (s : State) (b : Bool) : (s.setOvf b).fifo = s.fifo := (rfl)
@[simp] theorem State.setOvf_snapshot (s : State) (b : Bool) : (s.setOvf b).snapshot = s.snapshot := (rfl)
@[simp] theorem State.setOvf_seq (s : State) (b : Bool) : (s.setOvf b).seq = s.seq := (rfl)
@[simp] theorem State.setOvf_outside (s : State) (b : Bool) : (s.setOvf b).outside = s.outside := (rfl)

@[simp] theorem State.setSeq_sampleCount (s : State) (q : Seq) : (s.setSeq q).sampleCount = s.sampleCount := (rfl)
@[simp] theorem State.setSeq_osc (s : State) (q : Seq) : (s.setSeq q).osc = s.osc := (rfl)
@[simp] theorem State.setSeq_sub (s : State) (q : Seq) : (s.setSeq q).sub = s.sub := (rfl)
@[simp] theorem State.setSeq_lfo (s : State) (q : Seq) : (s.setSeq q).lfo = s.lfo := (rfl)
@[simp] theorem State.setSeq_flt (s : State) (q : Seq) : (s.setSeq q).flt = s.flt := (rfl)
@[simp] theorem State.setSeq_env (s : State) (q : Seq) : (s.setSeq q).env = s.env := (rfl)
@[simp] theorem State.setSeq_noteActive (s : State) (q : Seq) : (s.setSeq q).noteActive = s.noteActive := (rfl)
@[simp] theorem State.setSeq_noteLast (s : State) (q : Seq) : (s.setSeq q).noteLast = s.noteLast := (rfl)
@[simp] theorem State.setSeq_ovf (s : State) (q : Seq) : (s.setSeq q).ovf = s.ovf := (rfl)
@[simp] theorem State.setSeq_cfg (s : State) (q : Seq) : (s.setSeq q).cfg = s.cfg := (rfl)
@[simp] theorem State.setSeq_fifo (s : State) (q : Seq) : (s.setSeq q).fifo = s.fifo := (rfl)
@[simp] theorem State.setSeq_snapshot (s : State) (q : Seq) : (s.setSeq q).snapshot = s.snapshot := (rfl)
@[simp] theorem State.setSeq_seq (s : State) (q : Seq) : (s.setSeq q).seq = q := (rfl)
@[simp] theorem State.setSeq_outside (s : State) (q : Seq) : (s.setSeq q).outside = s.outside := (rfl)

@[simp] theorem State.setOutside_sampleCount (s : State) (o : Outside) : (s.setOutside o).sampleCount = s.sampleCount := (rfl)
@[simp] theorem State.setOutside_osc (s : State) (o : Outside) : (s.setOutside o).osc = s.osc := (rfl)
@[simp] theorem State.setOutside_sub (s : State) (o : Outside) : (s.setOutside o).sub = s.sub := (rfl)
@[simp] theorem State.setOutside_lfo (s : State) (o : Outside) : (s.setOutside o).lfo = s.lfo := (rfl)
@[simp] theorem State.setOutside_flt (s : State) (o : Outside) : (s.setOutside o).flt = s.flt := (rfl)
@[simp] theorem State.setOutside_env (s : State) (o : Outside) : (s.setOutside o).env = s.env := (rfl)
@[simp] theorem State.setOutside_noteActive (s : State) (o : Outside) : (s.setOutside o).noteActive = s.noteActive := (rfl)
@[simp] theorem State.setOutside_noteLast (s : State) (o : Outside) : (s.setOutside o).noteLast = s.noteLast := (rfl)
@[simp] theorem State.setOutside_ovf (s : State) (o : Outside) : (s.setOutside o).ovf = s.ovf := (rfl)
@[simp] theorem State.setOutside_cfg (s : State) (o : Outside) : (s.setOutside o).cfg = s.cfg := (rfl)
@[simp] theorem State.setOutside_fifo (s : State) (o : Outside) : (s.setOutside o).fifo = s.fifo := (rfl)
@[simp] theorem State.setOutside_snapshot (s : State) (o : Outside) : (s.setOutside o).snapshot = s.snapshot := (rfl)
@[simp] theorem State.setOutside_seq (s : State) (o : Outside) : (s.setOutside o).seq = s.seq := (rfl)
@[simp] theorem State.setOutside_outside (s : State) (o : Outside) : (s.setOutside o).outside = o := (rfl)

@[simp] theorem State.takeBatch_sampleCount (s : State) : s.takeBatch.sampleCount = s.sampleCount := (rfl)
@[simp] theorem State.takeBatch_osc (s : State) : s.takeBatch.osc = s.osc := (rfl)
@[simp] theorem State.takeBatch_sub (s : State) : s.takeBatch.sub = s.sub := (rfl)
@[simp] theorem State.takeBatch_lfo (s : State) : s.takeBatch.lfo = s.lfo := (rfl)
@[simp] theorem State.takeBatch_flt (s : State) : s.takeBatch.flt = s.flt := (rfl)
@[simp] theorem State.takeBatch_env (s : State) : s.takeBatch.env = s.env := (rfl)
@[simp] theorem State.takeBatch_noteActive (s : State) : s.takeBatch.noteActive = s.noteActive := (rfl)
@[simp] theorem State.takeBatch_noteLast (s : State) : s.takeBatch.noteLast = s.noteLast := (rfl)
@[simp] theorem State.takeBatch_ovf (s : State) : s.takeBatch.ovf = s.ovf := (rfl)
@[simp] theorem State.takeBatch_cfg (s : State) : s.takeBatch.cfg = s.cfg := (rfl)
@[simp] theorem State.takeBatch_fifo (s : State) : s.takeBatch.fifo = [] := (rfl)
@[simp] theorem State.takeBatch_snapshot (s : State) : s.takeBatch.snapshot = s.snapshot := (rfl)
@[simp] theorem State.takeBatch_seq (s : State) : s.takeBatch.seq = .applying s.fifo := (rfl)
@[simp] theorem State.takeBatch_outside (s : State) : s.takeBatch.outside = s.outside := (rfl)

@[simp] theorem State.publish_sampleCount (s : State) : s.publish.sampleCount = s.sampleCount := (rfl)
@[simp] theorem State.publish_osc (s : State) : s.publish.osc = s.osc := (rfl)
@[simp] theorem State.publish_sub (s : State) : s.publish.sub = s.sub := (rfl)
@[simp] theorem State.publish_lfo (s : State) : s.publish.lfo = s.lfo := (rfl)
@[simp] theorem State.publish_flt (s : State) : s.publish.flt = s.flt := (rfl)
@[simp] theorem State.publish_env (s : State) : s.publish.env = s.env := (rfl)
@[simp] theorem State.publish_noteActive (s : State) : s.publish.noteActive = s.noteActive := (rfl)
@[simp] theorem State.publish_noteLast (s : State) : s.publish.noteLast = s.noteLast := (rfl)
@[simp] theorem State.publish_ovf (s : State) : s.publish.ovf = s.ovf := (rfl)
@[simp] theorem State.publish_cfg (s : State) : s.publish.cfg = s.cfg := (rfl)
@[simp] theorem State.publish_fifo (s : State) : s.publish.fifo = s.fifo := (rfl)
@[simp] theorem State.publish_snapshot (s : State) : s.publish.snapshot = snapshotOf s.toRegs := (rfl)
@[simp] theorem State.publish_seq (s : State) : s.publish.seq = .boundary := (rfl)
@[simp] theorem State.publish_outside (s : State) : s.publish.outside = s.outside := (rfl)

@[simp] theorem State.tick_sampleCount (s : State) : s.tick.sampleCount = s.sampleCount + 1 := (rfl)
@[simp] theorem State.tick_osc (s : State) : s.tick.osc = s.osc.advance s.cfg s.lfo.sample := (rfl)
@[simp] theorem State.tick_sub (s : State) : s.tick.sub = s.sub.advance s.cfg s.lfo.sample := (rfl)
@[simp] theorem State.tick_lfo (s : State) : s.tick.lfo = s.lfo.advance s.cfg := (rfl)
@[simp] theorem State.tick_flt (s : State) : s.tick.flt = s.flt.shift s.mixIn := (rfl)
@[simp] theorem State.tick_env (s : State) : s.tick.env = s.env.advance := (rfl)
@[simp] theorem State.tick_noteActive (s : State) : s.tick.noteActive = s.noteActive := (rfl)
@[simp] theorem State.tick_noteLast (s : State) : s.tick.noteLast = s.noteLast := (rfl)
@[simp] theorem State.tick_ovf (s : State) : s.tick.ovf = s.ovf := (rfl)
@[simp] theorem State.tick_cfg (s : State) : s.tick.cfg = s.cfg := (rfl)
@[simp] theorem State.tick_fifo (s : State) : s.tick.fifo = s.fifo := (rfl)
@[simp] theorem State.tick_snapshot (s : State) : s.tick.snapshot = s.snapshot := (rfl)
@[simp] theorem State.tick_seq (s : State) : s.tick.seq = s.seq := (rfl)
@[simp] theorem State.tick_outside (s : State) :
    s.tick.outside = { s.outside with audio := s.outside.audio ++ [s.sampleOut] } := (rfl)

@[simp] theorem State.pushWord_sampleCount (s : State) (w : CommandWord) :
    (s.pushWord w).sampleCount = s.sampleCount := (rfl)
@[simp] theorem State.pushWord_osc (s : State) (w : CommandWord) :
    (s.pushWord w).osc = s.osc := (rfl)
@[simp] theorem State.pushWord_sub (s : State) (w : CommandWord) :
    (s.pushWord w).sub = s.sub := (rfl)
@[simp] theorem State.pushWord_lfo (s : State) (w : CommandWord) :
    (s.pushWord w).lfo = s.lfo := (rfl)
@[simp] theorem State.pushWord_flt (s : State) (w : CommandWord) :
    (s.pushWord w).flt = s.flt := (rfl)
@[simp] theorem State.pushWord_env (s : State) (w : CommandWord) :
    (s.pushWord w).env = s.env := (rfl)
@[simp] theorem State.pushWord_noteActive (s : State) (w : CommandWord) :
    (s.pushWord w).noteActive = s.noteActive := (rfl)
@[simp] theorem State.pushWord_noteLast (s : State) (w : CommandWord) :
    (s.pushWord w).noteLast = s.noteLast := (rfl)
@[simp] theorem State.pushWord_ovf (s : State) (w : CommandWord) :
    (s.pushWord w).ovf = ovfAfterPush s := (rfl)
@[simp] theorem State.pushWord_cfg (s : State) (w : CommandWord) :
    (s.pushWord w).cfg = s.cfg := (rfl)
@[simp] theorem State.pushWord_fifo (s : State) (w : CommandWord) :
    (s.pushWord w).fifo = fifoAfterPush w s := (rfl)
@[simp] theorem State.pushWord_snapshot (s : State) (w : CommandWord) :
    (s.pushWord w).snapshot = s.snapshot := (rfl)
@[simp] theorem State.pushWord_seq (s : State) (w : CommandWord) :
    (s.pushWord w).seq = s.seq := (rfl)
@[simp] theorem State.pushWord_outside (s : State) (w : CommandWord) :
    (s.pushWord w).outside = s.outside := (rfl)

@[simp] theorem State.setScript_sampleCount (s : State) (l : List HostAction) :
    (s.setScript l).sampleCount = s.sampleCount := (rfl)
@[simp] theorem State.setScript_osc (s : State) (l : List HostAction) :
    (s.setScript l).osc = s.osc := (rfl)
@[simp] theorem State.setScript_sub (s : State) (l : List HostAction) :
    (s.setScript l).sub = s.sub := (rfl)
@[simp] theorem State.setScript_lfo (s : State) (l : List HostAction) :
    (s.setScript l).lfo = s.lfo := (rfl)
@[simp] theorem State.setScript_flt (s : State) (l : List HostAction) :
    (s.setScript l).flt = s.flt := (rfl)
@[simp] theorem State.setScript_env (s : State) (l : List HostAction) :
    (s.setScript l).env = s.env := (rfl)
@[simp] theorem State.setScript_noteActive (s : State) (l : List HostAction) :
    (s.setScript l).noteActive = s.noteActive := (rfl)
@[simp] theorem State.setScript_noteLast (s : State) (l : List HostAction) :
    (s.setScript l).noteLast = s.noteLast := (rfl)
@[simp] theorem State.setScript_ovf (s : State) (l : List HostAction) :
    (s.setScript l).ovf = s.ovf := (rfl)
@[simp] theorem State.setScript_cfg (s : State) (l : List HostAction) :
    (s.setScript l).cfg = s.cfg := (rfl)
@[simp] theorem State.setScript_fifo (s : State) (l : List HostAction) :
    (s.setScript l).fifo = s.fifo := (rfl)
@[simp] theorem State.setScript_snapshot (s : State) (l : List HostAction) :
    (s.setScript l).snapshot = s.snapshot := (rfl)
@[simp] theorem State.setScript_seq (s : State) (l : List HostAction) :
    (s.setScript l).seq = s.seq := (rfl)
@[simp] theorem State.setScript_outside (s : State) (l : List HostAction) :
    (s.setScript l).outside = { s.outside with script := l } := (rfl)

end Sys2Proof.Machine
end

