-- ==== Sys2Proof/Laws/Ops.lean ====
section
/-! SUPPORT. What each shared operation can do, said once. -/

namespace Sys2Proof.Machine

/-! ### Parameter values -/

/-- A parameter command on a finite VALUE: its rule on the sanitised value (R330). -/
theorem withValue_finite {v : F64} (h : v.finite = true) (f : F64 → State → State) (s : State) :
    withValue v f s = .next (f (if v.isZero then F64.zero else v) s) := by
  simp [withValue, sanitise, h]

/-- A parameter command on a VALUE that is not finite: no change (R330). -/
theorem withValue_not_finite {v : F64} (h : v.finite = false) (f : F64 → State → State)
    (s : State) : withValue v f s = .next s := by
  simp [withValue, sanitise, h]

/-- A parameter command answers its state unchanged or its rule on some value. -/
theorem withValue_cases (v : F64) (f : F64 → State → State) (s : State) :
    withValue v f s = .next s ∨ ∃ x, withValue v f s = .next (f x s) := by
  cases h : v.finite
  · exact .inl (withValue_not_finite h f s)
  · exact .inr ⟨_, withValue_finite h f s⟩

/-- A waveform command writes OSC.KIND or nothing (R334). -/
theorem State.setOscType_cases (x : F64) (s : State) :
    s.setOscType x = s ∨ ∃ k, s.setOscType x = s.setOsc { s.osc with kind := k } := by
  unfold State.setOscType
  split
  · exact .inr ⟨_, rfl⟩
  · exact .inl rfl

/-- A waveform command writes SUB.KIND or nothing (R337). -/
theorem State.setSubType_cases (x : F64) (s : State) :
    s.setSubType x = s ∨ ∃ k, s.setSubType x = s.setSub { s.sub with kind := k } := by
  unfold State.setSubType
  split
  · exact .inr ⟨_, rfl⟩
  · exact .inl rfl

/-- A filter type command sets the type and recomputes, or does nothing (R341). -/
theorem State.setFilterType_cases (x : F64) (s : State) :
    s.setFilterType x = s ∨ ∃ k, s.setFilterType x = s.setFlt (s.flt.setType s.cfg k) := by
  unfold State.setFilterType
  split
  · exact .inr ⟨_, rfl⟩
  · exact .inl rfl

/-! ### Notes -/

/-- A retune keeps the envelope (R152). -/
theorem State.retune_env (note : BitVec 7) (s : State) : (s.retune note).env = s.env := by
  simp [State.retune]

/-- A retune keeps the configuration. -/
theorem State.retune_cfg (note : BitVec 7) (s : State) : (s.retune note).cfg = s.cfg := by
  simp [State.retune]

/-- A legato retune: the note is held and both oscillators play it, nothing else (R301). -/
theorem State.noteOn_none (note : BitVec 7) (s : State) :
    s.noteOn note none = (s.setNoteActive (s.noteActive ||| noteBit note)).retune note := rfl

/-- A note-on with a nonzero velocity also triggers the envelope (R298). -/
theorem State.noteOn_some {vel : BitVec 7} (h : vel ≠ 0) (note : BitVec 7) (s : State) :
    s.noteOn note (some vel) =
      ((s.setNoteActive (s.noteActive ||| noteBit note)).retune note).setEnv
        (s.env.triggerOn s.cfg vel) := by
  show State.triggerFor (some vel) _ = _
  unfold State.triggerFor
  dsimp only
  rw [if_neg h, State.retune_env, State.retune_cfg, State.setNoteActive_env,
    State.setNoteActive_cfg]

/-- A note-off that empties the set releases the envelope and keeps the pitch (R299). -/
theorem State.noteOff_last {note : BitVec 7} {s : State}
    (h : s.noteActive &&& ~~~ noteBit note = 0) :
    s.noteOff note = (s.setNoteActive 0).setEnv (s.env.triggerOff s.cfg) := by
  unfold State.noteOff State.release
  rw [h]
  rfl

/-- A note-off with notes still held retunes to the highest of them (R299, R300). -/
theorem State.noteOff_held {note : BitVec 7} {s : State}
    (h : s.noteActive &&& ~~~ noteBit note ≠ 0) :
    s.noteOff note =
      (s.setNoteActive (s.noteActive &&& ~~~ noteBit note)).noteOn
        (maxBit (s.noteActive &&& ~~~ noteBit note)) none := by
  unfold State.noteOff State.release
  rw [State.setNoteActive_noteActive, if_neg h]

/-- A clamped nonzero byte is nonzero (R293). -/
theorem clampData_ne_zero {b : Byte} (h : b ≠ 0) : clampData b ≠ 0 := by
  revert b
  decide

/-! ### Stored coefficients -/

/-- `recompute` reads only the parameters, so running it again changes nothing (R239). -/
theorem recompute_recompute (c : Config) (f : Flt) :
    (f.recompute c).recompute c = f.recompute c := rfl

/-! ### The engine's step -/

/-- Everything a step of the engine by itself can be (R264). -/
theorem engineStep_cases (s : State) :
    (s.seq = .boundary ∧ engineStep s = .next s.takeBatch) ∨
    (s.seq = .applying [] ∧ engineStep s = .next (s.setSeq (.ticking s.cfg.block))) ∨
    (∃ w ws, s.seq = .applying (w :: ws) ∧
      engineStep s = exec (decode w) (s.setSeq (.applying ws))) ∨
    (s.seq = .ticking 0 ∧ engineStep s = .next s.publish) ∨
    (∃ n, s.seq = .ticking (n + 1) ∧ engineStep s = .next (s.tick.setSeq (.ticking n))) := by
  unfold engineStep
  split <;> simp_all

/-- Where the script is empty a step is the engine's own (R413). -/
theorem machineStep_no_script {s : State} (h : s.outside.script = []) :
    machineStep s = engineStep s := by
  unfold machineStep
  rw [h]

/-- Where the script has an act a step is that act (R6). -/
theorem machineStep_script {s : State} {a : HostAction} {rest : List HostAction}
    (h : s.outside.script = a :: rest) : machineStep s = hostStep a rest s := by
  unfold machineStep
  rw [h]

end Sys2Proof.Machine
end

