-- ==== Sys2Proof/Laws/PerInstr.lean ====
section
/-! SUPPORT. A statement made for every command by itself: the encoder gives each command the KIND of
its format (R111). -/

namespace Sys2Proof

/-- The KIND of a command's format (R111): 0 NOP, 1 MIDI, 2 PARAM, 3 the reserved kinds. -/
def Instr.formatKind : Instr → BitVec 4
  | .nop => 0
  | .midiActiveSensing | .midiBadLength | .midiNoteOn _ _ | .midiNoteOnVel0 _ | .midiNoteOff _ _
  | .midiOther => 1
  | .paramOscLevel _ | .paramOscType _ | .paramOscFrequency _
  | .paramSubLevel _ | .paramSubType _ | .paramSubFrequency _
  | .paramFilterCutoff _ | .paramFilterResonance _ | .paramFilterType _
  | .paramEnvAttack _ | .paramEnvDecay _ | .paramEnvSustain _ | .paramEnvRelease _
  | .paramLfoLevel _ | .paramLfoFrequency _ | .paramUnknownDest | .paramUnknownParam => 2
  | .reservedKind => 3

/-- The word of a command has the KIND of its format (R111). -/
def Laws.EncodeKind.Statement (i : Instr) : Prop := fieldKind (encode i) = i.formatKind

namespace Laws.EncodeKind

theorem nop : Statement .nop := kindWord_kind _
theorem midiActiveSensing : Statement .midiActiveSensing := midiWord_kind _ _ _ _
theorem midiBadLength : Statement .midiBadLength := midiWord_kind _ _ _ _
theorem midiNoteOn (b1 b2 : Byte) : Statement (.midiNoteOn b1 b2) := midiWord_kind _ _ _ _
theorem midiNoteOnVel0 (b1 : Byte) : Statement (.midiNoteOnVel0 b1) := midiWord_kind _ _ _ _
theorem midiNoteOff (b1 b2 : Byte) : Statement (.midiNoteOff b1 b2) := midiWord_kind _ _ _ _
theorem midiOther : Statement .midiOther := midiWord_kind _ _ _ _
theorem paramOscLevel (v : F64) : Statement (.paramOscLevel v) := paramWord_kind _ _ _
theorem paramOscType (v : F64) : Statement (.paramOscType v) := paramWord_kind _ _ _
theorem paramOscFrequency (v : F64) : Statement (.paramOscFrequency v) := paramWord_kind _ _ _
theorem paramSubLevel (v : F64) : Statement (.paramSubLevel v) := paramWord_kind _ _ _
theorem paramSubType (v : F64) : Statement (.paramSubType v) := paramWord_kind _ _ _
theorem paramSubFrequency (v : F64) : Statement (.paramSubFrequency v) := paramWord_kind _ _ _
theorem paramFilterCutoff (v : F64) : Statement (.paramFilterCutoff v) := paramWord_kind _ _ _
theorem paramFilterResonance (v : F64) : Statement (.paramFilterResonance v) :=
  paramWord_kind _ _ _
theorem paramFilterType (v : F64) : Statement (.paramFilterType v) := paramWord_kind _ _ _
theorem paramEnvAttack (v : F64) : Statement (.paramEnvAttack v) := paramWord_kind _ _ _
theorem paramEnvDecay (v : F64) : Statement (.paramEnvDecay v) := paramWord_kind _ _ _
theorem paramEnvSustain (v : F64) : Statement (.paramEnvSustain v) := paramWord_kind _ _ _
theorem paramEnvRelease (v : F64) : Statement (.paramEnvRelease v) := paramWord_kind _ _ _
theorem paramLfoLevel (v : F64) : Statement (.paramLfoLevel v) := paramWord_kind _ _ _
theorem paramLfoFrequency (v : F64) : Statement (.paramLfoFrequency v) := paramWord_kind _ _ _
theorem paramUnknownDest : Statement .paramUnknownDest := paramWord_kind _ _ _
theorem paramUnknownParam : Statement .paramUnknownParam := paramWord_kind _ _ _
theorem reservedKind : Statement .reservedKind := kindWord_kind _

end Laws.EncodeKind

end Sys2Proof
end

