-- ==== Sys2Proof/Tests/Slice0.lean ====
section
/-! SUPPORT. Tests against the spec's own numbers and words (95_test_vectors.md, 30_encoding.md), and
for each statement of Obligations.lean that has hypotheses a witness that meets them together. -/

namespace Sys2Proof.Machine.Tests

-- One theorem at a time: elaborated together, this many kernel evaluations ask for more threads than
-- the memory limit of the check allows.
set_option Elab.async false

/-! ### Helpers -/

/-- The state a step answers, or the state after reset where it answers none. -/
def answered (r : StepResult) : State :=
  match r with
  | .next t => t
  | .fault _ => State.reset
  | .refused _ => State.reset

/-- The step answers a next state. -/
def isNext (r : StepResult) : Bool :=
  match r with
  | .next _ => true
  | .fault _ => false
  | .refused _ => false

/-- The state after one command word, from the state after reset at FS 48000. -/
def afterWord (w : CommandWord) : State := answered (exec (decode w) State.reset)

/-- The state after a second command word. -/
def thenWord (s : State) (w : CommandWord) : State := answered (exec (decode w) s)

/-- The state after reset with a place in the block step. -/
def resetAt (q : Seq) : State := State.reset.setSeq q

/-- The state after reset with acts of the host to come. -/
def resetWithScript (script : List HostAction) : State := State.reset.setScript script

/-- `noteon 60, 100` (R127). -/
def noteOn60 : CommandWord := 0x13903C64000000000000000000000000

/-- 1.5 (95_test_vectors.md 4.1 gives its pattern). -/
def onePointFive : F64 := ⟨0x3FF8000000000000⟩

/-- 12000.0 (R127 gives its pattern). -/
def twelveThousand : F64 := ⟨0x40C7700000000000⟩

/-- A NaN (R127). -/
def aNaN : F64 := ⟨0x7FF8000000000000⟩

/-! ### Well-formedness: an ill-formed term for the one check -/

theorem test_wellFormed_refuses_note_on_velocity_zero :
    (Instr.midiNoteOn 60 0).wellFormed = false := by decide

theorem test_wellFormed_accepts_note_on : (Instr.midiNoteOn 60 100).wellFormed = true := by decide

/-! ### Decoding: words written out field by field from R112 to R117 -/

theorem test_decode_nop : decode (0b0000#4 ++ 0#124) = .nop := by decide

theorem test_decode_nop_reads_no_other_bit :
    decode 0x0FFFFFFFFFFFFFFFFFFFFFFFFFFFFFFF = .nop := by decide

theorem test_decode_active_sensing :
    decode (0b0001#4 ++ 0b0001#4 ++ 0b11111110#8 ++ 0#8 ++ 0#8 ++ 0#96) = .midiActiveSensing := by
  decide

theorem test_decode_active_sensing_before_length :
    decode (0b0001#4 ++ 0b0000#4 ++ 0b11111110#8 ++ 0#8 ++ 0#8 ++ 0#96) = .midiActiveSensing := by
  decide

theorem test_decode_bad_length :
    decode (0b0001#4 ++ 0b0010#4 ++ 0b10010000#8 ++ 0b00111100#8 ++ 0#8 ++ 0#96) =
      .midiBadLength := by
  decide

theorem test_decode_note_on :
    decode (0b0001#4 ++ 0b0011#4 ++ 0b10010000#8 ++ 0b00111100#8 ++ 0b01100100#8 ++ 0#96) =
      .midiNoteOn 60 100 := by
  decide

theorem test_decode_note_on_ignores_reserved :
    decode 0x13903C64FFFFFFFFFFFFFFFFFFFFFFFF = .midiNoteOn 60 100 := by decide

theorem test_decode_note_on_velocity_zero :
    decode (0b0001#4 ++ 0b0011#4 ++ 0b10010000#8 ++ 0b00111100#8 ++ 0b00000000#8 ++ 0#96) =
      .midiNoteOnVel0 60 := by
  decide

theorem test_decode_note_off :
    decode (0b0001#4 ++ 0b0011#4 ++ 0b10000000#8 ++ 0b00111100#8 ++ 0b01000000#8 ++ 0#96) =
      .midiNoteOff 60 64 := by
  decide

theorem test_decode_other_channel :
    decode (0b0001#4 ++ 0b0011#4 ++ 0b10010001#8 ++ 0b00111100#8 ++ 0b01100100#8 ++ 0#96) =
      .midiOther := by
  decide

theorem test_decode_osc_level :
    decode (0b0010#4 ++ 0b0000#4 ++ 0b00000000#8 ++ 0#48 ++ 0x405FC00000000000#64) =
      .paramOscLevel ⟨0x405FC00000000000⟩ := by
  decide

theorem test_decode_osc_type :
    decode (0b0010#4 ++ 0b0000#4 ++ 0b00000001#8 ++ 0#48 ++ 0x3FF8000000000000#64) =
      .paramOscType onePointFive := by
  decide

theorem test_decode_osc_frequency :
    decode (0b0010#4 ++ 0b0000#4 ++ 0b00000010#8 ++ 0#48 ++ 0x40C7700000000000#64) =
      .paramOscFrequency twelveThousand := by
  decide

theorem test_decode_sub_level :
    decode (0b0010#4 ++ 0b0001#4 ++ 0b00000000#8 ++ 0#48 ++ 0#64) = .paramSubLevel ⟨0⟩ := by
  decide

theorem test_decode_sub_type :
    decode (0b0010#4 ++ 0b0001#4 ++ 0b00000001#8 ++ 0#48 ++ 0x4008000000000000#64) =
      .paramSubType ⟨0x4008000000000000⟩ := by
  decide

theorem test_decode_sub_frequency :
    decode (0b0010#4 ++ 0b0001#4 ++ 0b00000010#8 ++ 0#48 ++ 0#64) = .paramSubFrequency ⟨0⟩ := by
  decide

theorem test_decode_filter_cutoff :
    decode (0b0010#4 ++ 0b0010#4 ++ 0b00000011#8 ++ 0#48 ++ 0x40C7700000000000#64) =
      .paramFilterCutoff twelveThousand := by
  decide

theorem test_decode_filter_resonance :
    decode (0b0010#4 ++ 0b0010#4 ++ 0b00000100#8 ++ 0#48 ++ 0x3FF0000000000000#64) =
      .paramFilterResonance ⟨0x3FF0000000000000⟩ := by
  decide

theorem test_decode_filter_type :
    decode (0b0010#4 ++ 0b0010#4 ++ 0b00000001#8 ++ 0#48 ++ 0x4014000000000000#64) =
      .paramFilterType ⟨0x4014000000000000⟩ := by
  decide

theorem test_decode_env_attack :
    decode (0b0010#4 ++ 0b0011#4 ++ 0b00000101#8 ++ 0#48 ++ 0x3FF0000000000000#64) =
      .paramEnvAttack ⟨0x3FF0000000000000⟩ := by
  decide

theorem test_decode_env_decay :
    decode (0b0010#4 ++ 0b0011#4 ++ 0b00000110#8 ++ 0#48 ++ 0x4000000000000000#64) =
      .paramEnvDecay ⟨0x4000000000000000⟩ := by
  decide

theorem test_decode_env_sustain :
    decode (0b0010#4 ++ 0b0011#4 ++ 0b00000111#8 ++ 0#48 ++ 0x4050000000000000#64) =
      .paramEnvSustain ⟨0x4050000000000000⟩ := by
  decide

theorem test_decode_env_release :
    decode (0b0010#4 ++ 0b0011#4 ++ 0b00001000#8 ++ 0#48 ++ 0x3FF0000000000000#64) =
      .paramEnvRelease ⟨0x3FF0000000000000⟩ := by
  decide

theorem test_decode_lfo_level :
    decode (0b0010#4 ++ 0b0100#4 ++ 0b00000000#8 ++ 0#48 ++ 0x40C7700000000000#64) =
      .paramLfoLevel twelveThousand := by
  decide

theorem test_decode_lfo_frequency :
    decode (0b0010#4 ++ 0b0100#4 ++ 0b00000010#8 ++ 0#48 ++ 0x40C7700000000000#64) =
      .paramLfoFrequency twelveThousand := by
  decide

theorem test_decode_unknown_destination :
    decode (0b0010#4 ++ 0b0111#4 ++ 0b00000000#8 ++ 0#48 ++ 0x3FF0000000000000#64) =
      .paramUnknownDest := by
  decide

theorem test_decode_unknown_parameter :
    decode (0b0010#4 ++ 0b0010#4 ++ 0b00001001#8 ++ 0#48 ++ 0x4014000000000000#64) =
      .paramUnknownParam := by
  decide

theorem test_decode_lfo_type_is_no_pair :
    decode (0b0010#4 ++ 0b0100#4 ++ 0b00000001#8 ++ 0#48 ++ 0x3FF0000000000000#64) =
      .paramUnknownParam := by
  decide

theorem test_decode_reserved_kind : decode (0b0011#4 ++ 0#124) = .reservedKind := by decide

theorem test_decode_bytes_is_big_endian :
    decodeBytes [0x13, 0x90, 0x3C, 0x64, 0, 0, 0, 0, 0, 0, 0, 0, 0, 0, 0, 0] =
      .ok (.midiNoteOn 60 100) := by
  decide

theorem test_decode_bytes_refuses_part_of_a_word :
    decodeBytes [0x13, 0x90, 0x3C] = .error (.notOneWord 3) := by decide

theorem test_table_word_numbering :
    decodeTableWord 128 0x13903C64000000000000000000000000 = some (.midiNoteOn 60 100) := by decide

/-! ### The word placed by `withFetchWord` is the next one to be applied -/

theorem test_fetch_word_runs_after_reset :
    (answered (step (State.reset.withFetchWord 128 0x13903C64000000000000000000000000))).noteLast =
      0x01003C64 := by
  decide

/-! ### Numbers (95_test_vectors.md 2) -/

/-- pi lies between `piFix` and `piFix + 1` over 2^192, by Machin's formula: pi/4 is 4 atan(1/5) -
atan(1/239), each arctangent between two of its alternating partial sums. -/
def atanSum (m : Nat) : Nat → Rat
  | 0 => 0
  | k + 1 => atanSum m k + (if k % 2 = 0 then 1 else -1) / ((2 * k + 1) * (m : Rat) ^ (2 * k + 1))

theorem test_pi_lower :
    (piFix : Rat) ≤ (4 * (4 * atanSum 5 44 - atanSum 239 13)) * 2 ^ 192 := by decide +kernel

theorem test_pi_upper :
    (4 * (4 * atanSum 5 45 - atanSum 239 12)) * 2 ^ 192 ≤ (piFix : Rat) + 1 := by decide +kernel

/-- The natural logarithm of 2 is the sum over k ≥ 1 of 1/(k 2^k); after n terms the rest is below the
n-th term. -/
def ln2Sum : Nat → Rat
  | 0 => 0
  | k + 1 => ln2Sum k + 1 / ((k + 1) * 2 ^ (k + 1))

theorem test_ln2_bounds :
    (ln2Fix : Rat) ≤ ln2Sum 200 * 2 ^ 192 ∧
      (ln2Sum 200 + 1 / (200 * 2 ^ 200)) * 2 ^ 192 ≤ (ln2Fix : Rat) + 1 := by
  decide +kernel

theorem test_note_60_octave_0 : noteToFrequency 60 0 = ⟨0x40705A0250C2B956⟩ := by decide +kernel

theorem test_note_60_octave_minus_64 :
    noteToFrequency 60 (-64) = F64.ofRat true 20439497289109267 (10 ^ 16) := by decide +kernel

theorem test_note_127_octave_1 :
    noteToFrequency 127 1 = F64.ofRat false 6271926975707987 (10 ^ 12) := by decide +kernel

theorem test_adv_rounds_to_one :
    adv F64.zero (F64.ofRat true 1 (10 ^ 20)) = F64.zero := by decide +kernel

theorem test_adv_negative : adv quarter onePointFive.neg = threeQuarters := by decide +kernel

theorem test_sine_eighth :
    wave .sine (F64.ofRat false 1 8) = F64.ofRat false 7071067811865476 (10 ^ 16) := by
  decide +kernel

theorem test_square_half : wave .square half = F64.one.neg := by decide +kernel

theorem test_sawtooth_five_eighths :
    wave .sawtooth (F64.ofRat false 5 8) = threeQuarters.neg := by decide +kernel

theorem test_triangle_seven_eighths :
    wave .triangle (F64.ofRat false 7 8) = half.neg := by decide +kernel

theorem test_ramp_length_rounds :
    rampLen { Config.reference with fs := 44100 } 1 = 1736 := by decide +kernel

theorem test_gain_in_decay :
    ramp F64.one (F64.ofRat false 5039370078740157 (10 ^ 16)) 500 2000 =
      F64.ofRat false 8759842519685039 (10 ^ 16) := by
  decide +kernel

theorem test_coefficients_reset_44100 :
    (resetFlt { Config.reference with fs := 44100 }).a2 =
      F64.ofRat false 661675209185404 (10 ^ 15) := by
  decide +kernel

/-! ### Commands (95_test_vectors.md 4) -/

theorem test_nop : (afterWord 0).noteLast = 0 := by decide

theorem test_note_on_clamps_data :
    (afterWord 0x1390C8C8000000000000000000000000).noteLast = 0x01007F7F := by decide

theorem test_note_on_frequency :
    (afterWord noteOn60).sub.freq = F64.ofRat false 1308127826502993 (10 ^ 13) ∧
      (afterWord noteOn60).env.peak = ⟨0x3FE93264C993264D⟩ := by
  decide +kernel

theorem test_note_on_velocity_zero_releases :
    (thenWord (afterWord noteOn60) 0x13903C00000000000000000000000000).noteLast = 0x02003C00 ∧
      (thenWord (afterWord noteOn60) 0x13903C00000000000000000000000000).env.mode = .off := by
  decide +kernel

theorem test_note_off_retunes_to_highest :
    (thenWord (thenWord (afterWord noteOn60) 0x13904064000000000000000000000000)
      0x13804000000000000000000000000000).osc.freq = ⟨0x40705A0250C2B956⟩ := by
  decide +kernel

theorem test_note_off_none_held :
    (afterWord 0x13803C00000000000000000000000000).env.mode = .off ∧
      (afterWord 0x13803C00000000000000000000000000).noteActive = 0 := by
  decide +kernel

theorem test_other_channel_note_off_keeps_note :
    (thenWord (afterWord noteOn60) 0x13813C00000000000000000000000000).noteLast = 0x01003C64 := by
  decide

theorem test_osc_level_64 :
    (answered (execParamOscLevel (F64.ofNat 64) State.reset)).osc.level = ⟨0x3FE0204081020408⟩ := by
  decide +kernel

theorem test_osc_level_nan_ignored :
    (answered (execParamOscLevel aNaN State.reset)).osc.level = F64.one := by decide +kernel

theorem test_osc_type_fraction_ignored :
    (answered (execParamOscType onePointFive State.reset)).osc.kind = .sine := by decide +kernel

theorem test_osc_type_2 :
    (answered (execParamOscType F64.two State.reset)).osc.kind = .sawtooth := by decide +kernel

theorem test_osc_frequency_clamped :
    (answered (execParamOscFrequency (F64.ofInt (-30000)) State.reset)).osc.freq =
      F64.ofInt (-24000) := by
  decide +kernel

theorem test_sub_level_zero :
    (answered (execParamSubLevel F64.zero.neg State.reset)).sub.level = F64.zero := by decide +kernel

theorem test_sub_type_3 :
    (answered (execParamSubType (F64.ofNat 3) State.reset)).sub.kind = .triangle := by decide +kernel

theorem test_sub_frequency_keeps_osc :
    (answered (execParamSubFrequency F64.zero State.reset)).osc.freq = F64.ofNat 440 ∧
      (answered (execParamSubFrequency F64.zero State.reset)).sub.freq = F64.zero := by
  decide +kernel

theorem test_cutoff_clamped_high :
    (answered (execParamFilterCutoff (F64.ofNat 30000) State.reset)).flt.cutoff =
      F64.ofNat 20000 := by
  decide +kernel

theorem test_cutoff_1000_coefficient :
    (answered (execParamFilterCutoff (F64.ofNat 1000) State.reset)).flt.a1 =
      F64.ofRat true 1815341082704568 (10 ^ 15) := by
  decide +kernel

theorem test_resonance_clamped_low :
    (answered (execParamFilterResonance F64.zero State.reset)).flt.q = F64.ofRat false 1 10000 := by
  decide +kernel

theorem test_filter_type_bandpass :
    (answered (execParamFilterType F64.two State.reset)).flt.b2 =
      F64.ofRat true 26120387496374137 (10 ^ 17) := by
  decide +kernel

theorem test_filter_type_5_ignored :
    (answered (execParamFilterType (F64.ofNat 5) State.reset)).flt.type = .lowpass := by
  decide +kernel

theorem test_attack_half_to_even :
    (answered (execParamEnvAttack (F64.ofRat false 5 2) State.reset)).env.a = 2 := by decide +kernel

theorem test_decay_rounds_up :
    (answered (execParamEnvDecay (F64.ofRat false 1266 10) State.reset)).env.d = 127 := by
  decide +kernel

theorem test_sustain_negative :
    (answered (execParamEnvSustain (F64.ofInt (-3)) State.reset)).env.s = 0 := by decide +kernel

theorem test_release_clamped :
    (answered (execParamEnvRelease (F64.ofNat 200) State.reset)).env.r = 127 := by decide +kernel

theorem test_lfo_level_clamped :
    (answered (execParamLfoLevel (F64.ofInt (-30000)) State.reset)).lfo.level =
      F64.ofInt (-24000) := by
  decide +kernel

theorem test_lfo_frequency_clamped :
    (answered (execParamLfoFrequency (F64.ofNat 30000) State.reset)).lfo.freq =
      F64.ofNat 24000 := by
  decide +kernel

/-! ### The engine -/

theorem test_tick_lfo_phase :
    State.reset.tick.lfo.phase = F64.div (F64.ofNat 5) (F64.ofNat 48000) ∧
      State.reset.tick.sampleCount = 1 := by
  decide +kernel

theorem test_push_overflow :
    (State.pushWord noteOn60 { State.reset with fifo := List.replicate 64 0 }).ovf = true := by
  decide

theorem test_status_overflow_bit :
    ({ State.reset with ovf := true }).statusAt 0x06 = 0x100000000 := by decide

theorem test_status_octaves : State.reset.statusAt 0x0A = 0x100 := by decide

theorem test_status_read_above_window : State.reset.statusRead 0x40 = none := by decide

/-! ### Witnesses: for each statement with hypotheses, data that meets them together -/

theorem witness_DecodeOfEncodeIsIdentity : (Instr.midiNoteOn 60 1).wellFormed = true := by decide

theorem witness_DecoderReadsOnlyNamedFields_midi :
    let w : CommandWord := 0x13903C64000000000000000000000000
    let v : CommandWord := 0x13903C64FFFFFFFFFFFFFFFFFFFFFFFF
    w.extractLsb' 124 4 = v.extractLsb' 124 4 ∧
      (w.extractLsb' 124 4 = 1#4 → w.extractLsb' 96 28 = v.extractLsb' 96 28) ∧
      (w.extractLsb' 124 4 = 2#4 →
        w.extractLsb' 112 12 = v.extractLsb' 112 12 ∧ w.extractLsb' 0 64 = v.extractLsb' 0 64) := by
  decide

theorem witness_DecoderReadsOnlyNamedFields_param :
    let w : CommandWord := 0x200200000000000040C7700000000000
    let v : CommandWord := 0x2002FFFFFFFFFFFF40C7700000000000
    w.extractLsb' 124 4 = v.extractLsb' 124 4 ∧
      (w.extractLsb' 124 4 = 1#4 → w.extractLsb' 96 28 = v.extractLsb' 96 28) ∧
      (w.extractLsb' 124 4 = 2#4 →
        w.extractLsb' 112 12 = v.extractLsb' 112 12 ∧ w.extractLsb' 0 64 = v.extractLsb' 0 64) := by
  decide

theorem witness_MidiDispatchTable : noteOn60.extractLsb' 124 4 = 1#4 := by decide

theorem witness_UnrecognisedParamWords_destination_4 :
    (0x24010000000000000000000000000000 : CommandWord).extractLsb' 124 4 = 2#4 ∧
      decode 0x24010000000000000000000000000000 = .paramUnknownParam := by
  decide

theorem witness_UnrecognisedParamWords_destination_5 :
    (0x25010000000000000000000000000000 : CommandWord).extractLsb' 124 4 = 2#4 ∧
      decode 0x25010000000000000000000000000000 = .paramUnknownDest := by
  decide

theorem witness_WordsMoveBigEndian :
    (15 < 16) ∧ (7 < 8) ∧ ([] : List Byte).length ≠ 16 ∧ (List.replicate 17 (0 : Byte)).length ≠ 16 := by
  decide

theorem witness_NoteOnHoldsRetunesAndTriggers_word :
    noteOn60.extractLsb' 112 16 = 0x1390#16 ∧ noteOn60.extractLsb' 96 8 ≠ 0#8 := by decide

theorem witness_NoteOnHoldsRetunesAndTriggers :
    (0xC8 : Byte) ≠ 0 ∧ (127#7).toNat = Nat.min (0xC8 : Byte).toNat 127 ∧
      (1#7).toNat = Nat.min (1 : Byte).toNat 127 := by
  decide

theorem witness_TriggerOnBuildsSchedule :
    resetEnv.d.toNat = 127 ∧ ({ resetEnv with d := 126 }).d.toNat < 127 := by decide

theorem witness_NoteOffReleasesOrRetunes_last :
    (60#7).toNat = Nat.min (60 : Byte).toNat 127 ∧ (0#7).toNat = Nat.min (0 : Byte).toNat 127 ∧
      (afterWord noteOn60).noteActive &&& ~~~(1#128 <<< (60#7).toNat) = 0 := by
  decide +kernel

theorem witness_NoteOffReleasesOrRetunes_held :
    let s := { State.reset with noteActive := 0x80000000000000000000000000000001 }
    (0#7).toNat = Nat.min (0 : Byte).toNat 127 ∧
      (s.noteActive &&& ~~~(1#128 <<< (0#7).toNat)).getLsbD (127#7).toNat = true ∧
      ∀ j, (127#7).toNat < j →
        (s.noteActive &&& ~~~(1#128 <<< (0#7).toNat)).getLsbD j = false := by
  refine ⟨by decide, by decide, fun j hj => ?_⟩
  exact BitVec.getLsbD_of_ge _ _ hj

theorem witness_NoteOnVel0IsNoteOff :
    (0x13903C00000000000000000000000000 : CommandWord).extractLsb' 112 16 = 0x1390#16 ∧
      (0x13903C00000000000000000000000000 : CommandWord).extractLsb' 96 8 = 0#8 := by
  decide

theorem witness_TriggerOffReleasesFromCurrentGain :
    resetEnv.nseg = 0 ∧ resetEnv.v0 = F64.zero ∧ Config.reference.legal = true ∧ resetEnv.r = 0 := by
  decide

theorem witness_LevelCommandsWriteLevel_words :
    (0x2000000000000000405FC00000000000 : CommandWord).extractLsb' 112 16 = 0x2000#16 ∧
      (0x21000000000000000000000000000000 : CommandWord).extractLsb' 112 16 = 0x2100#16 := by
  decide

theorem witness_LevelCommandsWriteLevel :
    twelveThousand.finite = true ∧ F64.lt (F64.ofNat 127) twelveThousand = true ∧
      aNaN.finite = false ∧ (F64.ofInt (-5)).finite = true ∧
      F64.lt (F64.ofInt (-5)) F64.zero = true := by
  decide +kernel

theorem witness_TypeCommandsSelectWaveform_words :
    (0x20010000000000003FF0000000000000 : CommandWord).extractLsb' 112 16 = 0x2001#16 ∧
      (0x21010000000000003FF0000000000000 : CommandWord).extractLsb' 112 16 = 0x2101#16 := by
  decide

theorem witness_TypeCommandsSelectWaveform_code :
    F64.eq (F64.ofNat 3) (F64.ofNat Waveform.triangle.code) = true := by decide +kernel

theorem witness_TypeCommandsSelectWaveform_none (k : Waveform) :
    F64.eq (F64.ofNat 4) (F64.ofNat k.code) = false := by
  cases k <;> decide +kernel

theorem witness_FrequencyCommandsWriteFrequency :
    (0x200200000000000040C7700000000000 : CommandWord).extractLsb' 112 16 = 0x2002#16 ∧
      (0x21020000000000000000000000000000 : CommandWord).extractLsb' 112 16 = 0x2102#16 ∧
      twelveThousand.finite = true ∧ aNaN.finite = false := by
  decide

theorem witness_LfoCommandsWriteDepthAndRate :
    (0x240000000000000040C7700000000000 : CommandWord).extractLsb' 112 16 = 0x2400#16 ∧
      (0x240200000000000040C7700000000000 : CommandWord).extractLsb' 112 16 = 0x2402#16 ∧
      twelveThousand.finite = true ∧ aNaN.finite = false := by
  decide

theorem witness_FilterCommandsRecompute_words :
    (0x220300000000000040C7700000000000 : CommandWord).extractLsb' 112 16 = 0x2203#16 ∧
      (0x22040000000000003FF0000000000000 : CommandWord).extractLsb' 112 16 = 0x2204#16 ∧
      (0x22010000000000004014000000000000 : CommandWord).extractLsb' 112 16 = 0x2201#16 ∧
      twelveThousand.finite = true ∧ aNaN.finite = false := by
  decide

theorem witness_FilterCommandsRecompute_code :
    F64.eq (F64.ofNat 4) (F64.ofNat FilterType.allpass.code) = true := by decide +kernel

theorem witness_FilterCommandsRecompute_none (k : FilterType) :
    F64.eq (F64.ofNat 5) (F64.ofNat k.code) = false := by
  cases k <;> decide +kernel

theorem witness_CoefficientFormulas (k : FilterType) :
    (State.reset.flt.setType State.reset.cfg k).type = k := rfl

theorem witness_EnvelopeCommandsWriteParameters :
    (0x23050000000000003FF0000000000000 : CommandWord).extractLsb' 112 16 = 0x2305#16 ∧
      (0x23060000000000004000000000000000 : CommandWord).extractLsb' 112 16 = 0x2306#16 ∧
      (0x23070000000000004050000000000000 : CommandWord).extractLsb' 112 16 = 0x2307#16 ∧
      (0x23080000000000003FF0000000000000 : CommandWord).extractLsb' 112 16 = 0x2308#16 ∧
      twelveThousand.finite = true ∧ aNaN.finite = false := by
  decide

theorem witness_ParamValuesAreSanitised :
    Instr.paramLfoFrequency aNaN ∈ paramCommands aNaN ∧ aNaN.finite = false := by decide

theorem witness_ParamCommandsAreIdempotent :
    Instr.paramOscLevel twelveThousand ∈ paramCommands twelveThousand := by decide

theorem witness_EngineNeverStops_allowed :
    State.reset.actAllowed = true ∧ (resetWithScript [.run 3]).actAllowed = true ∧
      (resetWithScript [.pushBytes (List.replicate 16 0)]).actAllowed = true ∧
      (resetWithScript [.readStatus 0x3F]).actAllowed = true ∧
      (resetWithScript [.readStatusBytes 0x3F]).actAllowed = true ∧
      (resetWithScript [.reset Config.reference]).actAllowed = true := by
  decide

theorem witness_EngineNeverStops_refused :
    (resetWithScript [.pushBytes (List.replicate 15 0)]).actAllowed = false ∧
      (resetWithScript [.readStatus 0x40]).actAllowed = false ∧
      (resetWithScript [.readStatusBytes 0x40]).actAllowed = false ∧
      (resetWithScript [.reset { Config.reference with block := 0 }]).actAllowed = false ∧
      ((resetWithScript [.reset Config.reference]).setSeq (.ticking 1)).actAllowed = false := by
  decide

theorem witness_CommandsKeepRunningState :
    ∃ t, exec (.paramEnvAttack twelveThousand) State.reset = .next t ∧
      (∀ b1 b2, Instr.paramEnvAttack twelveThousand ≠ .midiNoteOn b1 b2) ∧
      (∀ b1, Instr.paramEnvAttack twelveThousand ≠ .midiNoteOnVel0 b1) ∧
      (∀ b1 b2, Instr.paramEnvAttack twelveThousand ≠ .midiNoteOff b1 b2) :=
  ⟨_, rfl, by simp, by simp, by simp⟩

theorem witness_StepAppliesDecodedCommand :
    (resetAt (.applying [noteOn60])).outside.script = [] ∧
      (resetAt (.applying [noteOn60])).seq = .applying (noteOn60 :: []) := ⟨rfl, rfl⟩

theorem witness_StepAppliesDecodedCommand_elapse :
    ((resetAt (.applying [noteOn60])).setScript [.elapse]).outside.script = .elapse :: [] ∧
      ((resetAt (.applying [noteOn60])).setScript [.elapse]).seq = .applying (noteOn60 :: []) :=
  ⟨rfl, rfl⟩

theorem witness_StepAppliesDecodedCommand_encoded :
    (Instr.midiNoteOn 127 1).wellFormed = true := by decide

theorem witness_BoundaryTakesWholeFifo_elapse :
    (resetWithScript [.elapse]).outside.script = .elapse :: [] := rfl

theorem witness_BoundaryTakesWholeFifo :
    State.reset.outside.script = [] ∧ State.reset.seq = .boundary ∧
      (resetAt (.applying [])).seq = .applying [] ∧ (resetAt (.ticking 1)).seq = .ticking (0 + 1) ∧
      (resetAt (.ticking 0)).seq = .ticking 0 := ⟨rfl, rfl, rfl, rfl, rfl⟩

theorem witness_StepsOfABlockAreTheBlockStep :
    ({ State.reset with fifo := [noteOn60] }).outside.script = [] ∧
      ({ State.reset with fifo := [noteOn60] }).seq = .boundary := ⟨rfl, rfl⟩

theorem witness_StepsOfABlockAreTheBlockStep_run :
    (resetWithScript [.run 1]).outside.script = .run (0 + 1) :: [] ∧
      (resetWithScript [.run 1]).seq = .boundary ∧
      (resetWithScript [.run 0]).outside.script = .run 0 :: [] := ⟨rfl, rfl, rfl⟩

/-- The run's last step of a block (at the snapshot) and one before it. -/
theorem witness_StepsOfABlockAreTheBlockStep_runStep :
    let s := (resetWithScript [.run 1]).setSeq (.ticking 0)
    let u := (resetWithScript [.run 1]).setSeq (.ticking 1)
    (∃ t, engineStep { s with outside := { s.outside with script := [] } } = .next t ∧
      t.seq = .boundary) ∧
      ∃ t, engineStep { u with outside := { u.outside with script := [] } } = .next t ∧
        t.seq ≠ .boundary :=
  ⟨⟨_, rfl, rfl⟩, _, rfl, by decide⟩

theorem witness_OrderWithinABatchMatters :
    let s := answered (exec (.paramEnvAttack F64.one) State.reset)
    F64.one.finite = true ∧ (100 : Byte) ≠ 0 ∧ s.noteActive = 0 ∧ s.cfg.legal = true ∧
      0 < s.env.a.toNat := by
  decide +kernel

theorem witness_PushAppendsOrDrops_room :
    (resetWithScript [.push noteOn60]).outside.script = .push noteOn60 :: [] ∧
      (resetWithScript [.push noteOn60]).fifo.length <
        (resetWithScript [.push noteOn60]).cfg.fifoDepth := by
  decide

theorem witness_PushAppendsOrDrops_full :
    let s := (resetWithScript [.push noteOn60]).setFifo (List.replicate 64 0)
    s.outside.script = .push noteOn60 :: [] ∧ s.fifo.length = s.cfg.fifoDepth := by
  decide

theorem witness_OverflowFlagIsSticky :
    ∃ t, step (State.reset.setOvf true) = .next t ∧ (State.reset.setOvf true).noResetNext ∧
      (State.reset.setOvf true).ovf = true :=
  ⟨_, rfl, fun _ _ h => by simp [State.reset, State.resetWith] at h, rfl⟩

theorem witness_StatusReadsHaveNoSideEffect :
    (resetWithScript [.readStatus 0x3F]).outside.script = .readStatus 0x3F :: [] ∧ 0x3F ≤ 0x3F ∧
      (resetWithScript [.readStatus 0x40]).outside.script = .readStatus 0x40 :: [] ∧
      0x3F < 0x40 := by
  decide

theorem witness_StatusReadsHaveNoSideEffect_bytes :
    (resetWithScript [.readStatusBytes 0]).outside.script = .readStatusBytes 0 :: [] ∧ 0 ≤ 0x3F ∧
      (resetWithScript [.readStatusBytes 0x40]).outside.script = .readStatusBytes 0x40 :: [] ∧
      0x3F < 0x40 := by
  decide

theorem witness_StatusWindowIndexMap :
    State.reset.fifo.length < 2 ^ 32 ∧ State.reset.cfg.block < 2 ^ 64 ∧
      State.reset.cfg.fifoDepth < 2 ^ 64 := by
  decide

theorem witness_SnapshotHoldsBetweenBoundaries :
    ∃ t, engineStep State.reset = .next t ∧ State.reset.seq ≠ .ticking 0 ∧ 0x00 ≠ 0x06 :=
  ⟨_, rfl, by decide, by decide⟩

theorem witness_ResetConstructsTheEngine_legal :
    (resetWithScript [.reset Config.reference]).outside.script = .reset Config.reference :: [] ∧
      (resetWithScript [.reset Config.reference]).seq = .boundary ∧
      Config.reference.legal = true := by
  decide

theorem witness_ResetConstructsTheEngine_illegal :
    let c : Config := { Config.reference with fs := 7999 }
    (resetWithScript [.reset c]).outside.script = .reset c :: [] ∧
      (resetWithScript [.reset c]).seq = .boundary ∧ c.legal = false := by
  decide

theorem witness_ResetConstructsTheEngine_inside :
    let s := (resetWithScript [.reset Config.reference]).setSeq (.applying [])
    s.outside.script = .reset Config.reference :: [] ∧ s.seq ≠ .boundary := by
  decide

theorem witness_ResetMeetsTheInvariants :
    ({ fs := 768000, block := 1, fifoDepth := 1, oscOctave := -64, subOctave := 64 } : Config).legal =
      true := by
  decide

/-- A state in the middle of a block with a command to apply. -/
def midBlock : State := resetAt (.applying [noteOn60])

theorem midBlock_inv : midBlock.Inv where
  cfgLegal := by decide
  octaves := ⟨rfl, rfl⟩
  fifoFits := by decide
  batchFits := by
    intro batch h
    obtain rfl : [noteOn60] = batch := by
      simpa [midBlock, resetAt] using h
    decide
  ticksFit := by
    intro n h
    simp [midBlock, resetAt] at h
  coefficients := (recompute_recompute _ _).symm
  segments := by
    unfold segmentsMatchMode
    decide

theorem witness_EveryStepKeepsTheInvariants :
    midBlock.Inv ∧ ∃ t, step midBlock = .next t := ⟨midBlock_inv, _, rfl⟩

theorem midBlock_params : midBlock.ParamsInRange where
  oscLevel := by decide +kernel
  subLevel := by decide +kernel
  lfoLevel := by decide +kernel
  lfoFreq := by decide +kernel
  cutoff := by decide +kernel
  resonance := by decide +kernel

theorem midBlock_freqs : midBlock.FreqsInRange where
  osc := by decide +kernel
  sub := by decide +kernel

theorem midBlock_phases : midBlock.PhasesInRange where
  osc := by decide +kernel
  sub := by decide +kernel
  lfo := by decide +kernel

theorem midBlock_env : EnvInRange midBlock.env where
  peak := by decide +kernel
  start := by decide +kernel
  targets := by
    intro p h
    cases h

theorem witness_EveryStepKeepsParameterRanges :
    midBlock.cfg.legal = true ∧ midBlock.ParamsInRange ∧ ∃ t, step midBlock = .next t :=
  ⟨by decide, midBlock_params, _, rfl⟩

theorem witness_EveryStepKeepsFrequencyBound :
    midBlock.cfg.legal = true ∧ midBlock.FreqsInRange ∧ ∃ t, step midBlock = .next t :=
  ⟨by decide, midBlock_freqs, _, rfl⟩

theorem witness_EveryStepKeepsPhasesInUnitRange :
    midBlock.cfg.legal = true ∧ midBlock.ParamsInRange ∧ midBlock.FreqsInRange ∧
      midBlock.PhasesInRange ∧ ∃ t, step midBlock = .next t :=
  ⟨by decide, midBlock_params, midBlock_freqs, midBlock_phases, _, rfl⟩

theorem witness_EveryStepKeepsTheScheduleInRange :
    EnvInRange midBlock.env ∧ ∃ t, step midBlock = .next t := ⟨midBlock_env, _, rfl⟩

theorem witness_GainIsWithinPeak :
    EnvInRange { resetEnv with
      nseg := 1, peak := F64.one, seg0Tgt := F64.one, seg0Len := 1000, k := 500 } where
  peak := by decide +kernel
  start := by decide +kernel
  targets := by
    intro p h
    obtain rfl : p = (F64.one, 1000) := by simpa [Env.segments] using h
    decide +kernel

theorem witness_SegmentLengthsWithinFiveSeconds :
    midBlock.cfg.legal = true ∧ segmentLengthsOk midBlock.cfg midBlock.env ∧
      ∃ t, step midBlock = .next t :=
  ⟨by decide, by unfold segmentLengthsOk; decide, _, rfl⟩

theorem witness_SoundIgnoresEventAndFlag :
    State.reset.SoundsLike { State.reset with noteLast := 0x01003C64, ovf := true } := rfl

theorem witness_RoundingIsToNearestEven :
    (0 < 3) ∧ F64.roundMag 2 3 < F64.infMag ∧ F64.infMag - 1 < F64.infMag := by decide +kernel

/-- A tie between two neighbours goes to the even pattern, upwards and downwards. -/
theorem witness_RoundingIsToNearestEven_tie :
    F64.roundMag (2 ^ 53 + 1) 1 = 2 ^ 53 ∧ F64.roundMag (2 ^ 53 + 3) 1 = 2 ^ 53 + 2 ∧
      F64.magUnits (2 ^ 53) = 2 ^ 53 ∧ F64.magUnits (2 ^ 53 + 1) = 2 ^ 53 + 2 := by
  decide +kernel

/-- The midpoint above the largest finite value rounds to infinity, one unit below it does not. -/
theorem witness_RoundingIsToNearestEven_infinity :
    F64.roundMag ((2 ^ 54 - 1) * 2 ^ 970 * F64.one1074) 1 = F64.infMag ∧
      F64.roundMag ((2 ^ 54 - 1) * 2 ^ 970 * F64.one1074 - 1) 1 = F64.infMag - 1 := by
  decide +kernel

theorem witness_RoundingIsToNearestEven_operations :
    onePointFive.finite = true ∧ twelveThousand.finite = true ∧ twelveThousand.isZero = false := by
  decide

theorem witness_NumericFunctionsExactPoints : 1023 ≤ 1023 ∧ 1074 ≤ 1074 := by decide

theorem witness_SineIsBounded : quarter.finite = true := by decide +kernel

theorem witness_NoteFrequencyReferencePitches : (-64 : Int) ≠ 0 := by decide

theorem witness_PhaseAdvanceStaysInUnitRange :
    phaseOk threeQuarters = true ∧ onePointFive.neg.finite = true := by decide +kernel

theorem witness_WaveformsStayWithinOne : phaseOk half = true := by decide +kernel

theorem witness_RampLengthEnds :
    ({ Config.reference with fs := 8000 }).legal = true ∧
      ({ Config.reference with fs := 768000 }).legal = true ∧ Config.reference.fs = 48000 ∧
      ({ Config.reference with fs := 25400 }).fs = 25400 := by
  decide

theorem witness_VelocityCurveIsMonotone :
    within F64.zero (F64.ofNat 127) onePointFive = true ∧
      within F64.zero (F64.ofNat 127) (F64.ofNat 127) = true ∧
      F64.le onePointFive (F64.ofNat 127) = true := by
  decide +kernel

theorem witness_GainAndStageOfTheSchedule :
    resetEnv.nseg = 0 ∧
      ({ resetEnv with nseg := 1 }).nseg = 1 ∧
      ({ resetEnv with nseg := 1 }).seg0Len.toNat ≤ ({ resetEnv with nseg := 1 }).k.toNat ∧
      ({ resetEnv with nseg := 2 }).nseg = 2 ∧
      ({ resetEnv with nseg := 2 }).seg0Len.toNat + ({ resetEnv with nseg := 2 }).seg1Len.toNat ≤
        ({ resetEnv with nseg := 2 }).k.toNat := by
  decide

/-- The first and the last position of each segment. -/
theorem witness_GainAndStageOfTheSchedule_inside :
    let e := { resetEnv with nseg := 2, seg0Len := 1000, seg1Len := 2000 }
    e.nseg ≠ 0 ∧ e.k.toNat < e.seg0Len.toNat ∧ ({ e with k := 999 }).k.toNat < e.seg0Len.toNat ∧
      e.seg0Len.toNat ≤ ({ e with k := 1000 }).k.toNat ∧
      ({ e with k := 2999 }).k.toNat < e.seg0Len.toNat + e.seg1Len.toNat := by
  decide

theorem witness_ByteActsMoveWholeWords :
    (resetWithScript [.pushBytes (bytesOfWord noteOn60)]).outside.script =
        .pushBytes (bytesOfWord noteOn60) :: [] ∧
      (List.replicate 16 (0 : Byte)).length = 16 ∧ (List.replicate 15 (0 : Byte)).length ≠ 16 := by
  decide

theorem witness_IgnoredErrorClassesChangeNothing :
    ErrorClass.nonfiniteValue ∈ errorClasses State.reset (.paramOscLevel aNaN) ∧
      ErrorClass.nonfiniteValue.ignored = true ∧
      ErrorClass.fifoFull ∈ pushClasses (State.reset.setFifo (List.replicate 64 0)) := by
  decide

end Sys2Proof.Machine.Tests
end

section
/-! SUPPORT. Rounding is to nearest, ties to even (R13); the exact points and the bounds of the numeric
functions (R11). -/

namespace Sys2Proof

/-! ### The value of a magnitude pattern -/

/-- The pattern of binade `sh` and significand `q` stands for `q * 2^sh` units; a significand of
2^53 is the carry into the next binade. -/
theorem F64.magUnits_binade {sh q : Nat} (hq : q ≤ 2 ^ 53) (hsh : 0 < sh → 2 ^ 52 ≤ q) :
    F64.magUnits (2 ^ 52 * sh + q) = q * 2 ^ sh := by
  rcases Nat.lt_or_ge q (2 ^ 52) with hlow | hlow
  · obtain rfl : sh = 0 := by omega
    rw [Nat.mul_zero, Nat.zero_add, F64.magUnits_of_lt hlow, Nat.pow_zero, Nat.mul_one]
  · rw [F64.magUnits_of_ge (by omega)]
    rcases Nat.lt_or_eq_of_le hq with hlt | rfl
    · have hdiv : (2 ^ 52 * sh + q) / 2 ^ 52 = sh + 1 := by omega
      have hmod : (2 ^ 52 * sh + q) % 2 ^ 52 = q - 2 ^ 52 := by omega
      rw [hdiv, hmod, Nat.add_sub_cancel, Nat.add_sub_cancel' hlow]
    · have hdiv : (2 ^ 52 * sh + 2 ^ 53) / 2 ^ 52 = sh + 2 := by omega
      have hmod : (2 ^ 52 * sh + 2 ^ 53) % 2 ^ 52 = 0 := by omega
      rw [hdiv, hmod, show sh + 2 - 1 = sh + 1 from rfl]
      ring

/-- Every pattern has a binade and a significand in it. -/
theorem F64.exists_binade (m : Nat) :
    ∃ sh q, m = 2 ^ 52 * sh + q ∧ q < 2 ^ 53 ∧ (0 < sh → 2 ^ 52 ≤ q) := by
  rcases Nat.lt_or_ge m (2 ^ 52) with h | h
  · exact ⟨0, m, by omega, by omega, by omega⟩
  · exact ⟨m / 2 ^ 52 - 1, 2 ^ 52 + m % 2 ^ 52, by omega, by omega, by omega⟩

/-- A larger pattern stands for a larger magnitude. -/
theorem F64.magUnits_strictMono : StrictMono F64.magUnits := by
  refine strictMono_nat_of_lt_succ fun m => ?_
  obtain ⟨sh, q, rfl, hq, hsh⟩ := F64.exists_binade m
  rw [Nat.add_assoc, F64.magUnits_binade hq.le hsh,
    F64.magUnits_binade hq fun h => (hsh h).trans (Nat.le_succ q)]
  exact Nat.mul_lt_mul_of_pos_right (Nat.lt_succ_self q) (Nat.two_pow_pos sh)

/-! ### Rounding to nearest, ties to even (R13) -/

/-- `rneDiv` takes the nearer of the two whole numbers around `n / d`, the even one at a tie. -/
theorem F64.rneDiv_cases (n d : Nat) :
    (F64.rneDiv n d = n / d ∧ 2 * (n % d) ≤ d ∧ (2 * (n % d) = d → F64.rneDiv n d % 2 = 0)) ∨
    (F64.rneDiv n d = n / d + 1 ∧ d ≤ 2 * (n % d) ∧
      (2 * (n % d) = d → F64.rneDiv n d % 2 = 0)) := by
  unfold F64.rneDiv
  split
  · exact .inl (by omega)
  · split
    · exact .inr (by omega)
    · omega

/-- The significand that `roundMag` rounds, cut to a whole number: below 2^53, and from 2^52 on
unless the binade is the lowest. -/
theorem F64.significand_floor_bounds (n d : Nat) :
    (0 < (n / d).log2 - 52 → 2 ^ 52 ≤ n / (d * 2 ^ ((n / d).log2 - 52))) ∧
      n / (d * 2 ^ ((n / d).log2 - 52)) + 1 ≤ 2 ^ 53 := by
  rw [← Nat.div_div_eq_div_mul]
  rcases Nat.lt_or_ge (n / d) (2 ^ 53) with h | h
  · rw [F64.shift_zero h, Nat.pow_zero, Nat.div_one]
    exact ⟨fun h0 => absurd h0 (Nat.lt_irrefl 0), h⟩
  · obtain ⟨hlow, hhigh⟩ := F64.shift_bounds h
    have hp : 0 < 2 ^ ((n / d).log2 - 52) := Nat.two_pow_pos _
    exact ⟨fun _ => (Nat.le_div_iff_mul_le hp).mpr hlow, (Nat.div_lt_iff_lt_mul hp).mpr hhigh⟩

/-- How far the magnitude of pattern `k` is from `n / d` units, times `d`. -/
def F64.roundErr (n d k : Nat) : Nat := ((F64.magUnits k * d : Nat) - (n : Int)).natAbs

/-- The pattern that `roundMag` rounds to before it is cut at infinity, the exponent unbounded. -/
def F64.roundUnbounded (n d : Nat) : Nat :=
  2 ^ 52 * ((n / d).log2 - 52) + F64.rneDiv n (d * 2 ^ ((n / d).log2 - 52))

theorem F64.roundMag_eq_min (n d : Nat) :
    F64.roundMag n d = F64.roundUnbounded n d ⊓ F64.infMag := by
  unfold F64.roundMag F64.roundUnbounded
  exact rfl

theorem F64.infMag_pred_odd : (F64.infMag - 1) % 2 = 1 := by decide

/-- The pattern at or just below `n / d`: the rounding takes it or its successor, whichever is
nearer, and the even one at a tie. -/
theorem F64.roundUnbounded_neighbours (n : Nat) {d : Nat} (hd : 0 < d) :
    ∃ M, F64.magUnits M * d ≤ n ∧ n < F64.magUnits (M + 1) * d ∧
      (F64.roundUnbounded n d = M ∧ F64.roundErr n d M ≤ F64.roundErr n d (M + 1) ∨
        F64.roundUnbounded n d = M + 1 ∧ F64.roundErr n d (M + 1) ≤ F64.roundErr n d M) ∧
      (F64.roundErr n d M = F64.roundErr n d (M + 1) → F64.roundUnbounded n d % 2 = 0) := by
  obtain ⟨sh, hsh⟩ : ∃ sh, sh = (n / d).log2 - 52 := ⟨_, rfl⟩
  have hD : 0 < d * 2 ^ sh := Nat.mul_pos hd (Nat.two_pow_pos sh)
  obtain ⟨hlow, hhigh⟩ : (0 < sh → 2 ^ 52 ≤ n / (d * 2 ^ sh)) ∧ n / (d * 2 ^ sh) + 1 ≤ 2 ^ 53 :=
    hsh ▸ F64.significand_floor_bounds n d
  have hM : F64.magUnits (2 ^ 52 * sh + n / (d * 2 ^ sh)) * d =
      d * 2 ^ sh * (n / (d * 2 ^ sh)) := by
    rw [F64.magUnits_binade (by omega) hlow]
    ring
  have hM' : F64.magUnits (2 ^ 52 * sh + n / (d * 2 ^ sh) + 1) * d =
      d * 2 ^ sh * (n / (d * 2 ^ sh)) + d * 2 ^ sh := by
    rw [Nat.add_assoc, F64.magUnits_binade hhigh (by omega)]
    ring
  have hn := Nat.div_add_mod n (d * 2 ^ sh)
  have hr := Nat.mod_lt n hD
  have hround := F64.rneDiv_cases n (d * 2 ^ sh)
  refine ⟨2 ^ 52 * sh + n / (d * 2 ^ sh), ?_⟩
  unfold F64.roundErr F64.roundUnbounded
  rw [← hsh, hM, hM']
  generalize d * 2 ^ sh * (n / (d * 2 ^ sh)) = floorD at hn ⊢
  omega

/-- No pattern is nearer to `n / d` than the rounded one, and where one is as near the rounded one
is even. -/
theorem F64.roundUnbounded_nearest (n : Nat) {d : Nat} (hd : 0 < d) (m : Nat) :
    F64.roundErr n d (F64.roundUnbounded n d) ≤ F64.roundErr n d m ∧
      (F64.roundErr n d (F64.roundUnbounded n d) = F64.roundErr n d m →
        m ≠ F64.roundUnbounded n d → F64.roundUnbounded n d % 2 = 0) := by
  obtain ⟨M, hM, hM', hround, heven⟩ := F64.roundUnbounded_neighbours n hd
  have hlt : ∀ {a b}, a < b → F64.magUnits a * d < F64.magUnits b * d := fun h =>
    Nat.mul_lt_mul_of_pos_right (F64.magUnits_strictMono h) hd
  have hm : m < M ∧ F64.roundErr n d M < F64.roundErr n d m ∨ m = M ∨ m = M + 1 ∨
      M + 1 < m ∧ F64.roundErr n d (M + 1) < F64.roundErr n d m := by
    unfold F64.roundErr
    obtain h | h | h | h : m < M ∨ m = M ∨ m = M + 1 ∨ M + 1 < m := by omega
    · exact .inl ⟨h, by have := hlt h; omega⟩
    · exact .inr (.inl h)
    · exact .inr (.inr (.inl h))
    · exact .inr (.inr (.inr ⟨h, by have := hlt h; omega⟩))
  rcases hround with ⟨hR, hle⟩ | ⟨hR, hle⟩ <;> rw [hR] at heven ⊢
  · rcases hm with h | rfl | rfl | h <;> omega
  · rcases hm with h | rfl | rfl | h <;> omega

/-- The midpoint between the largest finite value and the next pattern's value, in units. -/
theorem F64.infMag_midpoint :
    2 * ((2 ^ 54 - 1) * 2 ^ 970 * F64.one1074) =
      F64.magUnits (F64.infMag - 1) + F64.magUnits F64.infMag := by
  decide +kernel

/-- The unbounded rounding reaches infinity's pattern exactly from that midpoint on. -/
theorem F64.infMag_le_roundUnbounded_iff (n : Nat) {d : Nat} (hd : 0 < d) :
    F64.infMag ≤ F64.roundUnbounded n d ↔ (2 ^ 54 - 1) * 2 ^ 970 * F64.one1074 * d ≤ n := by
  have hmid := congrArg (· * d) F64.infMag_midpoint
  simp only [Nat.mul_assoc 2, Nat.add_mul] at hmid
  generalize (2 ^ 54 - 1) * 2 ^ 970 * F64.one1074 * d = mid at hmid ⊢
  have hodd := F64.infMag_pred_odd
  have hstep : F64.magUnits (F64.infMag - 1) * d < F64.magUnits F64.infMag * d :=
    Nat.mul_lt_mul_of_pos_right (F64.magUnits_strictMono (by decide)) hd
  have hmono : ∀ {a b}, a ≤ b → F64.magUnits a * d ≤ F64.magUnits b * d := fun h =>
    Nat.mul_le_mul_right d (F64.magUnits_strictMono.monotone h)
  constructor
  · intro h
    have hnear := (F64.roundUnbounded_nearest n hd (F64.infMag - 1)).1
    have hR := hmono h
    unfold F64.roundErr at hnear
    omega
  · intro h
    by_contra hR
    obtain ⟨hnear, heven⟩ := F64.roundUnbounded_nearest n hd F64.infMag
    have hle := hmono (show F64.roundUnbounded n d ≤ F64.infMag - 1 by omega)
    unfold F64.roundErr at hnear heven
    rcases Nat.lt_or_eq_of_le (show F64.roundUnbounded n d ≤ F64.infMag - 1 by omega) with hlt | heq
    · have := Nat.mul_lt_mul_of_pos_right (F64.magUnits_strictMono hlt) hd
      omega
    · rw [heq] at hnear heven
      omega

theorem F64.roundMag_eq_infMag_iff (n : Nat) {d : Nat} (hd : 0 < d) :
    F64.roundMag n d = F64.infMag ↔ (2 ^ 54 - 1) * 2 ^ 970 * F64.one1074 * d ≤ n := by
  rw [F64.roundMag_eq_min, inf_eq_right, F64.infMag_le_roundUnbounded_iff n hd]

theorem F64.roundMag_eq_roundUnbounded {n d : Nat} (h : F64.roundMag n d < F64.infMag) :
    F64.roundMag n d = F64.roundUnbounded n d := by
  rw [F64.roundMag_eq_min] at h ⊢
  exact inf_eq_left.mpr (Nat.le_of_not_le (inf_lt_right.mp h))

/-! ### The operations on finite values (R13, R18) -/

theorem F64.finite_neg {x : F64} (hx : x.finite = true) : x.neg.finite = true := by
  rwa [F64.finite, F64.mag_neg]

theorem F64.addNumbers_of_finite (op : NanOp) {x y : F64} (hx : x.finite = true)
    (hy : y.finite = true) : F64.addNumbers op x y = F64.addFinite x y := by
  simp [F64.addNumbers, F64.finite_not hx, F64.finite_not hy]

theorem F64.add_of_finite {x y : F64} (hx : x.finite = true) (hy : y.finite = true) :
    F64.add x y = F64.addFinite x y := by
  simp [F64.add, F64.finite_not hx, F64.finite_not hy, F64.addNumbers_of_finite .add hx hy]

theorem F64.sub_of_finite {x y : F64} (hx : x.finite = true) (hy : y.finite = true) :
    F64.sub x y = F64.addFinite x y.neg := by
  simp [F64.sub, F64.finite_not hx, F64.finite_not hy,
    F64.addNumbers_of_finite .sub hx (F64.finite_neg hy)]

theorem F64.mul_of_finite {x y : F64} (hx : x.finite = true) (hy : y.finite = true) :
    F64.mul x y = F64.ofMag (x.sign != y.sign) (F64.roundMag (x.units * y.units) F64.one1074) := by
  simp [F64.mul, F64.finite_not hx, F64.finite_not hy, F64.unitsProduct_eq]

theorem F64.div_of_finite {x y : F64} (hx : x.finite = true) (hy : y.finite = true)
    (h0 : y.isZero = false) :
    F64.div x y = F64.ofMag (x.sign != y.sign) (F64.roundMag (x.units * F64.one1074) y.units) := by
  simp [F64.div, F64.finite_not hx, F64.finite_not hy, h0, Nat.mul_comm F64.one1074]

theorem F64.ofInt_eq_ofMag (i : Int) :
    F64.ofInt i = F64.ofMag (decide (i < 0)) (F64.roundMag (i.natAbs * F64.one1074) 1) := by
  rw [F64.ofInt, F64.ofRat, Nat.mul_comm]

/-- Settles O49: the unbounded rounding is nearest among all patterns, by the two patterns around
the exact value; infinity's midpoint is the tie above the largest finite pattern, which is odd. -/
theorem roundingIsToNearestEven : Obligations.RoundingIsToNearestEven := by
  refine ⟨fun n d hd => ⟨F64.roundMag_eq_infMag_iff n hd, fun hfin m _ => ?_⟩,
    fun x y hx hy => ⟨F64.add_of_finite hx hy, ?_, F64.mul_of_finite hx hy,
      F64.div_of_finite hx hy⟩, F64.ofInt_eq_ofMag⟩
  · rw [F64.roundMag_eq_roundUnbounded hfin]
    exact F64.roundUnbounded_nearest n hd m
  · rw [F64.sub_of_finite hx hy, F64.addFinite, F64.signedUnits_neg, F64.sign_neg,
      ← Int.sub_eq_add_neg]

/-! ### Equal ratios and exact values -/

/-- Rounding depends on the real number only, not on the ratio that writes it. -/
theorem F64.roundMag_congr {n d n' d' : Nat} (hd : 0 < d) (hd' : 0 < d') (h : n * d' = n' * d) :
    F64.roundMag n d = F64.roundMag n' d' :=
  Nat.le_antisymm (F64.roundMag_mono hd hd' h.le) (F64.roundMag_mono hd' hd h.ge)

/-- A significand of at most 53 bits in a binade below infinity's is some finite pattern's value. -/
theorem F64.roundMag_binade {sh q : Nat} (hq : q < 2 ^ 53) (hlow : 2 ^ 52 ≤ q) (hsh : sh < 2046) :
    F64.magUnits (F64.roundMag (q * 2 ^ sh) 1) = q * 2 ^ sh ∧
      F64.roundMag (q * 2 ^ sh) 1 < F64.infMag := by
  have hm : 2 ^ 52 * sh + q < F64.infMag := by
    unfold F64.infMag
    omega
  have hround := F64.roundMag_magUnits Nat.one_pos hm.le
  rw [Nat.mul_one, F64.magUnits_binade hq.le fun _ => hlow] at hround
  rw [hround]
  exact ⟨F64.magUnits_binade hq.le fun _ => hlow, hm⟩

/-- A whole number below 2^53 is a binary64 value. -/
theorem F64.roundMag_whole {k : Nat} (hk : k < 2 ^ 53) :
    F64.magUnits (F64.roundMag (k * F64.one1074) 1) = k * F64.one1074 ∧
      F64.roundMag (k * F64.one1074) 1 < F64.infMag := by
  rcases Nat.eq_zero_or_pos k with rfl | hpos
  · rw [Nat.zero_mul]
    decide +kernel
  · have hlog : k.log2 < 53 := (Nat.log2_lt hpos.ne').mpr hk
    have hunits : k * F64.one1074 = k * 2 ^ (52 - k.log2) * 2 ^ (1022 + k.log2) := by
      rw [Nat.mul_assoc, ← Nat.pow_add, F64.one1074, F64.unitExp_eq,
        show 52 - k.log2 + (1022 + k.log2) = 1074 by omega]
    rw [hunits]
    refine F64.roundMag_binade ?_ ?_ (by omega)
    · calc k * 2 ^ (52 - k.log2) < 2 ^ (k.log2 + 1) * 2 ^ (52 - k.log2) :=
            Nat.mul_lt_mul_of_pos_right Nat.lt_log2_self (Nat.two_pow_pos _)
        _ = 2 ^ 53 := by rw [← Nat.pow_add]; congr 1; omega
    · calc 2 ^ 52 = 2 ^ k.log2 * 2 ^ (52 - k.log2) := by rw [← Nat.pow_add]; congr 1; omega
        _ ≤ k * 2 ^ (52 - k.log2) := Nat.mul_le_mul_right _ (Nat.log2_self_le hpos.ne')

theorem F64.mag_ofInt (i : Int) :
    (F64.ofInt i).mag = F64.roundMag (i.natAbs * F64.one1074) 1 := by
  rw [F64.ofInt_eq_ofMag, F64.mag_ofMag_le_inf _ (F64.roundMag_le_inf _ _)]

theorem F64.finite_ofInt {i : Int} (hi : i.natAbs < 2 ^ 53) : (F64.ofInt i).finite = true := by
  rw [F64.finite, F64.mag_ofInt]
  exact decide_eq_true (F64.roundMag_whole hi).2

theorem F64.signedUnits_ofInt {i : Int} (hi : i.natAbs < 2 ^ 53) :
    (F64.ofInt i).signedUnits = i * F64.one1074 := by
  have hsign : (F64.ofInt i).sign = decide (i < 0) := F64.sign_ofMag _ _
  rw [F64.signedUnits, F64.units, F64.mag_ofInt, (F64.roundMag_whole hi).1, hsign, Nat.cast_mul,
    Int.natCast_natAbs]
  rcases lt_or_ge i 0 with hneg | hpos
  · simp [hneg, abs_of_neg hneg]
  · simp [not_lt.mpr hpos, abs_of_nonneg hpos]

/-! ### pow2 at the whole numbers (R11) -/

theorem fixOne_pos : 0 < fixOne := Nat.two_pow_pos _

theorem Enclosure.round_of_lo_eq_hi {e : Enclosure} (h : e.lo = e.hi) (fn : NumFn) (x : F64) :
    e.round fn x = F64.roundMag e.lo e.den := by
  rw [Enclosure.round, ← h, if_pos rfl]

/-- At a whole number from -1075 to 1023 the enclosure of pow2 is a point, 2^(i + 1075) halves of a
unit. -/
theorem pow2_ofInt {i : Int} (hlow : -1075 ≤ i) (hhigh : i ≤ 1023) :
    pow2 (F64.ofInt i) = F64.ofMag false (F64.roundMag (2 ^ (i + 1075).toNat) 2) := by
  have hi : i.natAbs < 2 ^ 53 := by omega
  have hone : (F64.one1074 : Int) ≠ 0 := by exact_mod_cast F64.one1074_pos.ne'
  have hpoint : (powEnclosure i 0).lo = (powEnclosure i 0).hi := rfl
  rw [pow2, if_pos (F64.finite_ofInt hi), F64.signedUnits_ofInt hi, Int.mul_ediv_cancel _ hone,
    Int.mul_emod_left, if_neg (by omega), if_neg (by omega), Int.toNat_zero,
    Enclosure.round_of_lo_eq_hi hpoint]
  refine congrArg (F64.ofMag false) (F64.roundMag_congr (Nat.mul_pos two_pos fixOne_pos) two_pos ?_)
  change fixOne * 2 ^ (i + 1075).toNat * 2 = 2 ^ (i + 1075).toNat * (2 * fixOne)
  ring

theorem pow2_ofInt_natCast {k : Nat} (hk : k ≤ 1023) :
    pow2 (F64.ofInt k) = F64.ofNat (2 ^ k) := by
  rw [pow2_ofInt (by omega) (by omega), F64.ofNat, F64.ofRat]
  refine congrArg (F64.ofMag false) (F64.roundMag_congr two_pos one_pos ?_)
  have hexp : ((k : Int) + 1075).toNat = F64.unitExp + k + 1 := by
    rw [F64.unitExp_eq]
    omega
  rw [hexp, F64.one1074, ← Nat.pow_add, Nat.pow_succ, Nat.mul_one]

theorem pow2_ofInt_neg_natCast {k : Nat} (hk : k ≤ 1074) :
    pow2 (F64.ofInt (-(k : Int))) = F64.ofRat false 1 (2 ^ k) := by
  rw [pow2_ofInt (by omega) (by omega), F64.ofRat]
  refine congrArg (F64.ofMag false) (F64.roundMag_congr two_pos (Nat.two_pow_pos k) ?_)
  have hexp : (-(k : Int) + 1075).toNat + k = F64.unitExp + 1 := by
    rw [F64.unitExp_eq]
    omega
  rw [← Nat.pow_add, hexp, F64.one1074, Nat.pow_succ, Nat.mul_one]

theorem sinTurns_cosTurns_quarterTurns :
    sinTurns F64.zero = F64.zero ∧ sinTurns quarter = F64.one ∧ sinTurns half = F64.zero ∧
      sinTurns threeQuarters = F64.one.neg ∧ cosTurns quarter = F64.zero ∧
      cosTurns F64.zero = F64.one := by
  decide +kernel

/-- Settles O50: at a whole number the enclosure of pow2 is a point; the six quarter turns are
evaluated. -/
theorem numericFunctionsExactPoints : Obligations.NumericFunctionsExactPoints :=
  ⟨fun _ => pow2_ofInt_natCast, fun _ => pow2_ofInt_neg_natCast, sinTurns_cosTurns_quarterTurns⟩

/-! ### The bound of the sine and the cosine (R11, R181) -/

/-- An enclosure of a magnitude of at most 1.0. -/
structure Enclosure.AtMostOne (e : Enclosure) : Prop where
  den_pos : 0 < e.den
  lo_le : e.lo ≤ F64.one1074 * e.den
  hi_le : e.hi ≤ F64.one1074 * e.den

theorem alternating_le_fixOne (c : Nat → Nat) (y2lo y2hi fuel k : Nat) :
    (alternating c y2lo y2hi fuel k).1 ≤ fixOne ∧ (alternating c y2lo y2hi fuel k).2 ≤ fixOne := by
  cases fuel with
  | zero => exact ⟨Nat.zero_le _, Nat.le_refl _⟩
  | succ fuel => exact ⟨Nat.sub_le _ _, Nat.sub_le _ _⟩

theorem succ_piFix_le : piFix + 1 ≤ 4 * fixOne := by decide

/-- The angle (pi/2) × z is at most 1.0 for z at most half of it. -/
theorem sineSmall_atMostOne {z : Nat} (hz : 2 * z ≤ F64.one1074) : (sineSmall z).AtMostOne := by
  have hangle : (piFix + 1) * z ≤ 2 * fixOne * F64.one1074 := by
    calc (piFix + 1) * z ≤ 4 * fixOne * z := Nat.mul_le_mul_right z succ_piFix_le
      _ = 2 * fixOne * (2 * z) := by ring
      _ ≤ 2 * fixOne * F64.one1074 := Nat.mul_le_mul_left _ hz
  have hprod : ∀ {a b}, a ≤ (piFix + 1) * z → b ≤ fixOne →
      a * b ≤ F64.one1074 * (2 * fixOne * fixOne) := fun ha hb =>
    calc _ ≤ 2 * fixOne * F64.one1074 * fixOne := Nat.mul_le_mul (ha.trans hangle) hb
      _ = F64.one1074 * (2 * fixOne * fixOne) := by ring
  obtain ⟨hlo, hhi⟩ := alternating_le_fixOne (fun k => 2 * k * (2 * k + 1)) (angleSqLo z)
    (angleSqHi z) sineTerms 1
  exact ⟨Nat.mul_pos (Nat.mul_pos two_pos fixOne_pos) fixOne_pos,
    hprod (Nat.mul_le_mul_right z (Nat.le_succ _)) hlo, hprod (Nat.le_refl _) hhi⟩

theorem cosineSmall_atMostOne (z : Nat) : (cosineSmall z).AtMostOne := by
  obtain ⟨hlo, hhi⟩ := alternating_le_fixOne (fun k => (2 * k - 1) * (2 * k)) (angleSqLo z)
    (angleSqHi z) sineTerms 1
  exact ⟨fixOne_pos, Nat.mul_le_mul_left _ hlo, Nat.mul_le_mul_left _ hhi⟩

theorem quarterSine_atMostOne (z : Nat) : (quarterSine z).AtMostOne := by
  unfold quarterSine
  split
  · exact ⟨one_pos, Nat.zero_le _, Nat.zero_le _⟩
  · split
    · exact ⟨one_pos, (Nat.mul_one _).ge, (Nat.mul_one _).ge⟩
    · split
      · exact sineSmall_atMostOne ‹_›
      · exact cosineSmall_atMostOne _

theorem turnSine_atMostOne (r : Nat) : (turnSine r).AtMostOne := by
  unfold turnSine
  split <;> exact quarterSine_atMostOne _

theorem F64.mag_one : F64.one.mag = F64.roundMag F64.one1074 1 := by
  rw [F64.one, F64.ofNat, F64.ofRat, F64.mag_ofMag_le_inf _ (F64.roundMag_le_inf _ _), Nat.mul_one]

/-- Both candidates of the rounding are at most 1.0, so the free choice of log 3 does not matter. -/
theorem Enclosure.AtMostOne.round_le {e : Enclosure} (he : e.AtMostOne) (fn : NumFn) (x : F64) :
    e.round fn x ≤ F64.one.mag := by
  have hbound : ∀ {n}, n ≤ F64.one1074 * e.den → F64.roundMag n e.den ≤ F64.one.mag := fun h =>
    F64.mag_one ▸ F64.roundMag_mono he.den_pos one_pos ((Nat.mul_one _).trans_le h)
  unfold Enclosure.round
  split
  · exact hbound he.lo_le
  · split
    · exact hbound he.hi_le
    · exact hbound he.lo_le

theorem F64.finite_one : F64.one.finite = true := by decide +kernel

/-- A magnitude of at most 1.0, with either sign, is between -1.0 and 1.0. -/
theorem within_one_ofMag (s : Bool) {m : Nat} (hm : m ≤ F64.one.mag) :
    Machine.within F64.one.neg F64.one (F64.ofMag s m) = true := by
  have hone : F64.one.mag < F64.infMag := of_decide_eq_true F64.finite_one
  have hsign : F64.one.sign = false := F64.sign_ofMag _ _
  have hmag : (F64.ofMag s m).mag = m := F64.mag_ofMag_le_inf s (hm.trans hone.le)
  have hkey : -(F64.one.mag : Int) ≤ (F64.ofMag s m).key ∧ (F64.ofMag s m).key ≤ F64.one.mag := by
    rw [F64.key, hmag]
    split <;> omega
  have hone_key : F64.one.key = F64.one.mag := by simp [F64.key, hsign]
  have hneg_key : F64.one.neg.key = -F64.one.mag := by
    simp [F64.key, F64.sign_neg, F64.mag_neg, hsign]
  simp [Machine.within, F64.le, F64.isNaN, F64.mag_neg, hmag, hone_key, hneg_key, hkey, hone.le,
    hm.trans hone.le]

/-- Settles O51: every enclosure that the sine is rounded from has both ends at most 1.0. -/
theorem sineIsBounded : Obligations.SineIsBounded := by
  intro t ht
  rw [sinTurns, cosTurns, if_pos ht, if_pos ht, signedSine, signedSine]
  exact ⟨within_one_ofMag _ ((turnSine_atMostOne _).round_le _ _),
    within_one_ofMag _ ((turnSine_atMostOne _).round_le _ _)⟩

end Sys2Proof
end

section
/-! SUPPORT. Bounds on binary64 values: nonnegative bounds, the magnitude of a sum, a product and a
quotient against whole numbers, and the floor (R13, R18). -/

namespace Sys2Proof

open Machine (within)

/-! ### Nonnegative bounds -/

/-- A number whose sign bit is clear: what a range of R33 to R39 has as its upper bound. -/
structure F64.IsBound (b : F64) : Prop where
  sign : b.sign = false
  number : b.mag ≤ F64.infMag

theorem F64.sign_zero : F64.zero.sign = false := by decide

theorem F64.mag_zero : F64.zero.mag = 0 := by decide

theorem F64.key_zero : F64.zero.key = 0 := by decide

theorem F64.IsBound.key_eq {b : F64} (hb : b.IsBound) : b.key = b.mag := by
  simp [F64.key, hb.sign]

theorem F64.IsBound.not_nan {b : F64} (hb : b.IsBound) : b.isNaN = false :=
  decide_eq_false (Nat.not_lt.mpr hb.number)

theorem F64.IsBound.neg_not_nan {b : F64} (hb : b.IsBound) : b.neg.isNaN = false := by
  rw [F64.isNaN, F64.mag_neg]
  exact hb.not_nan

theorem F64.isBound_ofMag {m : Nat} (hm : m ≤ F64.infMag) : (F64.ofMag false m).IsBound :=
  ⟨F64.sign_ofMag _ _, (F64.mag_ofMag_le_inf _ hm).le.trans hm⟩

theorem F64.isBound_ofNat (n : Nat) : (F64.ofNat n).IsBound :=
  F64.isBound_ofMag (F64.roundMag_le_inf _ _)

theorem F64.IsBound.mul {x y : F64} (hx : x.IsBound) (hy : y.IsBound) (hfx : x.finite = true)
    (hfy : y.finite = true) : (F64.mul x y).IsBound := by
  rw [F64.mul_of_finite hfx hfy, hx.sign, hy.sign, bne_self_eq_false]
  exact F64.isBound_ofMag (F64.roundMag_le_inf _ _)

theorem F64.IsBound.div {x y : F64} (hx : x.IsBound) (hy : y.IsBound) (hfx : x.finite = true)
    (hfy : y.finite = true) (h0 : y.isZero = false) : (F64.div x y).IsBound := by
  rw [F64.div_of_finite hfx hfy h0, hx.sign, hy.sign, bne_self_eq_false]
  exact F64.isBound_ofMag (F64.roundMag_le_inf _ _)

theorem F64.le_iff {x y : F64} :
    F64.le x y = true ↔ (x.mag ≤ F64.infMag ∧ y.mag ≤ F64.infMag) ∧ x.key ≤ y.key := by
  simp [F64.le, F64.isNaN]

theorem F64.lt_iff {x y : F64} :
    F64.lt x y = true ↔ (x.mag ≤ F64.infMag ∧ y.mag ≤ F64.infMag) ∧ x.key < y.key := by
  simp [F64.lt, F64.isNaN]

theorem F64.IsBound.le_iff {a b : F64} (ha : a.IsBound) (hb : b.IsBound) :
    F64.le a b = true ↔ a.mag ≤ b.mag := by
  simp [F64.le, ha.not_nan, hb.not_nan, ha.key_eq, hb.key_eq]

/-- In [0.0, b]: the magnitude is at most b, and a set sign bit is that of -0.0. -/
theorem within_zero_iff {b x : F64} (hb : b.IsBound) :
    within F64.zero b x = true ↔ x.mag ≤ b.mag ∧ (x.sign = true → x.mag = 0) := by
  have hn := hb.number
  rw [within, Bool.and_eq_true, F64.le_iff, F64.le_iff, hb.key_eq, F64.key_zero, F64.mag_zero,
    F64.key]
  generalize F64.infMag = top at hn ⊢
  cases x.sign
  · simp only [Bool.false_eq_true, if_false, false_imp_iff, and_true]
    omega
  · simp only [if_true, forall_const]
    omega

/-- In [-b, b]: the magnitude is at most b. -/
theorem within_neg_iff {b x : F64} (hb : b.IsBound) :
    within b.neg b x = true ↔ x.mag ≤ b.mag := by
  have hn := hb.number
  have hkey : b.neg.key = -b.mag := by simp [F64.key, F64.sign_neg, F64.mag_neg, hb.sign]
  rw [within, Bool.and_eq_true, F64.le_iff, F64.le_iff, hb.key_eq, hkey, F64.mag_neg, F64.key]
  generalize F64.infMag = top at hn ⊢
  split <;> omega

theorem within_of_mag_le {a b x : F64} (ha : a.IsBound) (hb : b.IsBound) (hx : x.IsBound)
    (hax : a.mag ≤ x.mag) (hxb : x.mag ≤ b.mag) : within a b x = true := by
  rw [within, (ha.le_iff hx).mpr hax, (hx.le_iff hb).mpr hxb, Bool.and_self]

/-- A finite value clamped to a nonempty range is in it (R18). -/
theorem within_clamp {v lo hi : F64} (hv : v.finite = true) (hlo : lo.isNaN = false)
    (hhi : hi.isNaN = false) (h : F64.le lo hi = true) :
    within lo hi (F64.clamp v lo hi) = true :=
  Bool.and_eq_true_iff.mpr (F64.clamp_range (F64.finite_not hv).1 hlo hhi h)

theorem F64.le_zero_bound {b : F64} (hb : b.IsBound) : F64.le F64.zero b = true := by
  rw [F64.IsBound.le_iff ⟨F64.sign_zero, by decide⟩ hb, F64.mag_zero]
  exact Nat.zero_le _

theorem within_zero_self {b : F64} (hb : b.IsBound) : within F64.zero b b = true := by
  rw [within, F64.le_zero_bound hb, (hb.le_iff hb).mpr le_rfl, Bool.and_self]

theorem F64.le_neg_bound {b : F64} (hb : b.IsBound) : F64.le b.neg b = true :=
  (Bool.and_eq_true_iff.mp ((within_neg_iff hb).mpr (Nat.le_refl b.mag))).1

/-! ### Magnitudes against whole numbers -/

/-- The magnitude of the value is at most the whole number `k`. -/
def F64.AtMost (x : F64) (k : Nat) : Prop := x.mag ≤ (F64.ofNat k).mag

theorem F64.finite_iff {x : F64} : x.finite = true ↔ x.mag < F64.infMag := decide_eq_true_iff

theorem F64.units_mono {x y : F64} (h : x.mag ≤ y.mag) : x.units ≤ y.units :=
  F64.magUnits_strictMono.monotone h

theorem F64.mag_ofMag_roundMag (s : Bool) (n d : Nat) :
    (F64.ofMag s (F64.roundMag n d)).mag = F64.roundMag n d :=
  F64.mag_ofMag_le_inf s (F64.roundMag_le_inf n d)

theorem F64.roundMag_zero : F64.roundMag 0 1 = 0 := by decide +kernel

theorem F64.mag_addFinite (x y : F64) :
    (F64.addFinite x y).mag = F64.roundMag (x.signedUnits + y.signedUnits).natAbs 1 := by
  unfold F64.addFinite
  split
  · rename_i h
    rw [h, Int.natAbs_zero, F64.roundMag_zero, F64.mag_ofMag_le_inf _ (Nat.zero_le _)]
  · exact F64.mag_ofMag_roundMag _ _ _

theorem F64.natAbs_signedUnits (x : F64) : x.signedUnits.natAbs = x.units := by
  unfold F64.signedUnits
  split <;> omega

theorem F64.natAbs_signedUnits_add_le (x y : F64) :
    (x.signedUnits + y.signedUnits).natAbs ≤ x.units + y.units := by
  rw [← F64.natAbs_signedUnits x, ← F64.natAbs_signedUnits y]
  exact Int.natAbs_add_le _ _

theorem F64.mag_ofNat (k : Nat) : (F64.ofNat k).mag = F64.roundMag (k * F64.one1074) 1 := by
  rw [F64.ofNat, F64.ofRat, F64.mag_ofMag_roundMag, Nat.mul_comm]

theorem F64.mag_ofNat_zero : (F64.ofNat 0).mag = 0 := by decide +kernel

theorem F64.finite_ofNat {k : Nat} (hk : k < 2 ^ 53) : (F64.ofNat k).finite = true := by
  rw [F64.finite_iff, F64.mag_ofNat]
  exact (F64.roundMag_whole hk).2

theorem F64.units_ofNat {k : Nat} (hk : k < 2 ^ 53) : (F64.ofNat k).units = k * F64.one1074 := by
  rw [F64.units, F64.mag_ofNat, (F64.roundMag_whole hk).1]

theorem F64.roundMag_le_ofNat {n d k : Nat} (hd : 0 < d) (h : n ≤ k * F64.one1074 * d) :
    F64.roundMag n d ≤ (F64.ofNat k).mag := by
  rw [F64.mag_ofNat]
  exact F64.roundMag_mono hd one_pos ((Nat.mul_one n).trans_le h)

theorem F64.ofNat_le_roundMag {n d k : Nat} (hd : 0 < d) (h : k * F64.one1074 * d ≤ n) :
    (F64.ofNat k).mag ≤ F64.roundMag n d := by
  rw [F64.mag_ofNat]
  exact F64.roundMag_mono one_pos hd (h.trans_eq (Nat.mul_one n).symm)

theorem F64.mag_ofNat_mono {a b : Nat} (h : a ≤ b) : (F64.ofNat a).mag ≤ (F64.ofNat b).mag := by
  rw [F64.mag_ofNat a]
  exact F64.roundMag_le_ofNat one_pos
    ((Nat.mul_le_mul_right _ h).trans_eq (Nat.mul_one _).symm)

theorem F64.atMost_ofNat {a b : Nat} (h : a ≤ b) : (F64.ofNat a).AtMost b := F64.mag_ofNat_mono h

theorem F64.atMost_zero_iff {x : F64} : x.AtMost 0 ↔ x.mag = 0 := by
  rw [F64.AtMost, F64.mag_ofNat_zero, Nat.le_zero]

section
variable {x y : F64} {a b : Nat}

theorem F64.AtMost.finite (hx : x.AtMost a) (ha : a < 2 ^ 53) : x.finite = true :=
  F64.finite_iff.mpr (Nat.lt_of_le_of_lt hx (F64.finite_iff.mp (F64.finite_ofNat ha)))

theorem F64.AtMost.units_le (hx : x.AtMost a) (ha : a < 2 ^ 53) : x.units ≤ a * F64.one1074 :=
  (F64.units_mono hx).trans_eq (F64.units_ofNat ha)

theorem F64.AtMost.add (hx : x.AtMost a) (hy : y.AtMost b) (ha : a < 2 ^ 53) (hb : b < 2 ^ 53) :
    (F64.add x y).AtMost (a + b) := by
  rw [F64.add_of_finite (hx.finite ha) (hy.finite hb), F64.AtMost, F64.mag_addFinite]
  refine F64.roundMag_le_ofNat one_pos ((F64.natAbs_signedUnits_add_le x y).trans ?_)
  rw [Nat.mul_one, Nat.add_mul]
  exact Nat.add_le_add (hx.units_le ha) (hy.units_le hb)

theorem F64.AtMost.mul (hx : x.AtMost a) (hy : y.AtMost b) (ha : a < 2 ^ 53) (hb : b < 2 ^ 53) :
    (F64.mul x y).AtMost (a * b) := by
  rw [F64.mul_of_finite (hx.finite ha) (hy.finite hb), F64.AtMost, F64.mag_ofMag_roundMag]
  refine F64.roundMag_le_ofNat F64.one1074_pos ?_
  calc x.units * y.units ≤ a * F64.one1074 * (b * F64.one1074) :=
        Nat.mul_le_mul (hx.units_le ha) (hy.units_le hb)
    _ = a * b * F64.one1074 * F64.one1074 := by ring

theorem F64.units_ge_of_ofNat_le (hb : 0 < b) (hb' : b < 2 ^ 53) (hy : (F64.ofNat b).mag ≤ y.mag) :
    y.isZero = false ∧ b * F64.one1074 ≤ y.units := by
  have hunits : b * F64.one1074 ≤ y.units := (F64.units_ofNat hb').symm.trans_le (F64.units_mono hy)
  refine ⟨decide_eq_false fun h => ?_, hunits⟩
  have : 0 < b * F64.one1074 := Nat.mul_pos hb F64.one1074_pos
  have hzero : y.units = 0 := by rw [F64.units, h]; decide
  omega

/-- A magnitude of at most `a * b` over one of at least `b`. -/
theorem F64.AtMost.div (hx : x.AtMost (a * b)) (hy : (F64.ofNat b).mag ≤ y.mag)
    (hab : a * b < 2 ^ 53) (hb : 0 < b) (hb' : b < 2 ^ 53) (hfin : y.finite = true) :
    (F64.div x y).AtMost a := by
  obtain ⟨hzero, hunits⟩ := F64.units_ge_of_ofNat_le hb hb' hy
  have hpos : 0 < y.units := (Nat.mul_pos hb F64.one1074_pos).trans_le hunits
  rw [F64.div_of_finite (hx.finite hab) hfin hzero, F64.AtMost, F64.mag_ofMag_roundMag]
  refine F64.roundMag_le_ofNat hpos ?_
  calc x.units * F64.one1074 ≤ a * b * F64.one1074 * F64.one1074 :=
        Nat.mul_le_mul_right _ (hx.units_le hab)
    _ = a * F64.one1074 * (b * F64.one1074) := by ring
    _ ≤ a * F64.one1074 * y.units := Nat.mul_le_mul_left _ hunits

/-- Rounding a nonnegative value of at most `k` to a whole number stays in [0, k] (R18). -/
theorem F64.AtMost.rne_le (hx : x.AtMost a) (ha : a < 2 ^ 53) (hs : x.sign = false) :
    0 ≤ F64.rne x ∧ F64.rne x ≤ a := by
  have hround : F64.rneDiv x.units F64.one1074 ≤ a := by
    calc F64.rneDiv x.units F64.one1074 ≤ F64.rneDiv (a * F64.one1074) F64.one1074 :=
          F64.rneDiv_mono F64.one1074_pos F64.one1074_pos
            (Nat.mul_le_mul_right _ (hx.units_le ha))
      _ = a := F64.rneDiv_mul a F64.one1074_pos
  rw [F64.rne, if_pos (hx.finite ha), hs, if_neg Bool.false_ne_true]
  omega

end

/-! ### The floor (R18) -/

/-- From 2^52 on every finite value is a whole number. -/
theorem F64.one1074_dvd_magUnits {m : Nat} (h : 2 ^ 52 * F64.one1074 ≤ F64.magUnits m) :
    F64.one1074 ∣ F64.magUnits m := by
  obtain ⟨sh, q, rfl, hq, hsh⟩ := F64.exists_binade m
  rw [F64.magUnits_binade hq.le hsh] at h ⊢
  refine Dvd.dvd.mul_left (Nat.pow_dvd_pow 2 (Nat.le_of_not_lt fun hlt => ?_)) q
  have hpow : q * 2 ^ sh * 2 < 2 ^ 52 * F64.one1074 * 2 := by
    calc q * 2 ^ sh * 2 = q * 2 ^ (sh + 1) := by ring
      _ < 2 ^ 53 * 2 ^ (sh + 1) := Nat.mul_lt_mul_of_pos_right hq (Nat.two_pow_pos _)
      _ ≤ 2 ^ 53 * 2 ^ F64.unitExp :=
        Nat.mul_le_mul_left _ (Nat.pow_le_pow_right two_pos hlt)
      _ = 2 ^ 52 * F64.one1074 * 2 := by rw [F64.one1074]; ring
  omega

/-- A whole number next to a finite value is a finite binary64 value. -/
theorem F64.roundMag_whole_near {x : F64} (hx : x.finite = true) {n : Nat}
    (hlow : x.units < n * F64.one1074 + F64.one1074)
    (hhigh : n * F64.one1074 < x.units + F64.one1074) :
    F64.magUnits (F64.roundMag (n * F64.one1074) 1) = n * F64.one1074 ∧
      F64.roundMag (n * F64.one1074) 1 < F64.infMag := by
  rcases Nat.lt_or_ge x.units (2 ^ 52 * F64.one1074) with hsmall | hlarge
  · refine F64.roundMag_whole ?_
    have : n * F64.one1074 < (2 ^ 52 + 1) * F64.one1074 := by rw [Nat.add_mul]; omega
    have := Nat.lt_of_mul_lt_mul_right this
    omega
  · obtain ⟨k, hk⟩ : F64.one1074 ∣ x.units := F64.one1074_dvd_magUnits hlarge
    rw [Nat.mul_comm] at hk
    have hnk : n = k := by
      rw [hk, ← Nat.succ_mul] at hlow hhigh
      have := Nat.lt_of_mul_lt_mul_right hlow
      have := Nat.lt_of_mul_lt_mul_right hhigh
      omega
    have hround := F64.roundMag_magUnits one_pos (F64.finite_iff.mp hx).le
    rw [Nat.mul_one, show F64.magUnits x.mag = k * F64.one1074 from hk] at hround
    rw [hnk, hround]
    exact ⟨hk, F64.finite_iff.mp hx⟩

theorem F64.ofRat_whole_near {x : F64} (hx : x.finite = true) {n : Nat} (s : Bool)
    (hlow : x.units < n * F64.one1074 + F64.one1074)
    (hhigh : n * F64.one1074 < x.units + F64.one1074) :
    (F64.ofRat s n 1).finite = true ∧ (F64.ofRat s n 1).sign = s ∧
      (F64.ofRat s n 1).units = n * F64.one1074 := by
  obtain ⟨hunits, hfin⟩ := F64.roundMag_whole_near hx hlow hhigh
  rw [F64.ofRat, Nat.mul_comm, F64.finite_iff, F64.units, F64.mag_ofMag_roundMag]
  exact ⟨hfin, F64.sign_ofMag _ _, hunits⟩

/-- The floor of a finite value is finite, not above it, and less than 1.0 below it. -/
theorem F64.floor_of_finite {x : F64} (hx : x.finite = true) :
    (F64.floor x).finite = true ∧ (F64.floor x).signedUnits ≤ x.signedUnits ∧
      x.signedUnits < (F64.floor x).signedUnits + F64.one1074 := by
  have hone := F64.one1074_pos
  rw [F64.floor, (F64.finite_not hx).1, (F64.finite_not hx).2, if_neg Bool.false_ne_true,
    if_neg Bool.false_ne_true]
  split
  · rename_i hs
    have hdiv := Nat.div_add_mod (F64.one1074 - 1 + x.units) F64.one1074
    have hmod := Nat.mod_lt (F64.one1074 - 1 + x.units) hone
    rw [Nat.mul_comm] at hdiv
    obtain ⟨hfin, hsign, hunits⟩ := F64.ofRat_whole_near hx true
      (n := (F64.one1074 - 1 + x.units) / F64.one1074) (by omega) (by omega)
    refine ⟨hfin, ?_⟩
    rw [F64.signedUnits, F64.signedUnits, hsign, hs, if_pos rfl, if_pos rfl, hunits]
    omega
  · rename_i hs
    have hdiv := Nat.div_add_mod x.units F64.one1074
    have hmod := Nat.mod_lt x.units hone
    rw [Nat.mul_comm] at hdiv
    obtain ⟨hfin, hsign, hunits⟩ := F64.ofRat_whole_near hx false
      (n := x.units / F64.one1074) (by omega) (by omega)
    refine ⟨hfin, ?_⟩
    rw [F64.signedUnits, F64.signedUnits, hsign, if_neg hs, if_neg Bool.false_ne_true, hunits]
    omega

/-! ### The phase advance (R158) -/

theorem F64.isBound_one : F64.one.IsBound := F64.isBound_ofNat 1

theorem F64.mag_one_pos : 0 < F64.one.mag := by decide +kernel

theorem phaseOk_iff {p : F64} :
    Machine.phaseOk p = true ↔ p.mag < F64.one.mag ∧ (p.sign = true → p.mag = 0) := by
  have hn := F64.isBound_one.number
  have hpos := F64.mag_one_pos
  rw [Machine.phaseOk, Bool.and_eq_true, F64.le_iff, F64.lt_iff, F64.isBound_one.key_eq,
    F64.key_zero, F64.mag_zero, F64.key]
  generalize F64.infMag = top at hn ⊢
  cases p.sign
  · simp only [Bool.false_eq_true, if_false, false_imp_iff, and_true]
    omega
  · simp only [if_true, forall_const]
    omega

theorem phaseOk_zero : Machine.phaseOk F64.zero = true := by
  rw [phaseOk_iff, F64.mag_zero]
  exact ⟨F64.mag_one_pos, fun _ => rfl⟩

/-- A finite value less its floor, rounded, is in [0.0, 1.0]. -/
theorem wrapTurns_range {q : F64} (hq : q.finite = true) :
    (wrapTurns q).mag ≤ F64.one.mag ∧ ((wrapTurns q).sign = true → (wrapTurns q).mag = 0) := by
  obtain ⟨hfin, hle, hlt⟩ := F64.floor_of_finite hq
  rw [wrapTurns, F64.sub_of_finite hq hfin, F64.addFinite, F64.signedUnits_neg]
  split
  · rw [F64.mag_ofMag_le_inf _ (Nat.zero_le _)]
    exact ⟨Nat.zero_le _, fun _ => rfl⟩
  · rw [F64.mag_ofMag_roundMag, F64.sign_ofMag]
    refine ⟨F64.roundMag_le_ofNat one_pos (by omega), fun h => ?_⟩
    have := of_decide_eq_true h
    omega

/-- Adding a phase to a finite value does not reach infinity's midpoint. -/
theorem F64.finite_add_of_le_one {p x : F64} (hp : p.mag ≤ F64.one.mag) (hx : x.finite = true) :
    (F64.add p x).finite = true := by
  have hpmost : p.AtMost 1 := hp
  have hpunits := hpmost.units_le (by decide)
  have hxunits : x.units ≤ F64.magUnits (F64.infMag - 1) :=
    F64.magUnits_strictMono.monotone (Nat.le_pred_of_lt (F64.finite_iff.mp hx))
  have hmid : 1 * F64.one1074 + F64.magUnits (F64.infMag - 1) <
      (2 ^ 54 - 1) * 2 ^ 970 * F64.one1074 * 1 := by decide +kernel
  rw [F64.add_of_finite (hpmost.finite (by decide)) hx, F64.finite_iff, F64.mag_addFinite]
  refine lt_of_le_of_ne (F64.roundMag_le_inf _ _) fun h => ?_
  have hreach := ((F64.roundMag_eq_infMag_iff _ one_pos).mp h).trans
    (F64.natAbs_signedUnits_add_le p x)
  generalize (2 ^ 54 - 1) * 2 ^ 970 * F64.one1074 * 1 = midpoint at hmid hreach
  generalize F64.magUnits (F64.infMag - 1) = largest at hmid hxunits
  omega

/-- A phase in [0, 1) advanced by a finite increment is in [0, 1): the sum of R158 is finite, and
where the wrapped value is 1.0 it becomes 0.0. -/
theorem phaseOk_adv {p inc : F64} (hp : Machine.phaseOk p = true) (hinc : inc.finite = true) :
    Machine.phaseOk (adv p inc) = true := by
  obtain ⟨hle, hzero⟩ :=
    wrapTurns_range (F64.finite_add_of_le_one (phaseOk_iff.mp hp).1.le hinc)
  have hn := F64.isBound_one.number
  have hpos := F64.mag_one_pos
  unfold adv
  split
  · exact phaseOk_zero
  · rename_i hne
    refine phaseOk_iff.mpr ⟨lt_of_le_of_ne hle fun h => hne ?_, hzero⟩
    have hsign : (wrapTurns (F64.add p inc)).sign = false := by
      by_contra hs
      have := hzero (by simpa using hs)
      omega
    simp [F64.eq, F64.isNaN, F64.key, h, hsign, hn, F64.isBound_one.sign]

end Sys2Proof
end

section
/-! SUPPORT. The ranges of a legal configuration and the values that commands and reset write into
them (R36, R150, R154, R157, R191, R236, R237). -/

namespace Sys2Proof

open Machine (within freqLimit)

/-! ### The bounds of a legal configuration -/

theorem Config.fs_bounds {c : Config} (h : c.legal = true) : 8000 ≤ c.fs ∧ c.fs ≤ 768000 := by
  simp only [Config.legal, Bool.and_eq_true, decide_eq_true_eq] at h
  omega

theorem Config.isBound_fsF (c : Config) : c.fsF.IsBound := F64.isBound_ofNat c.fs

theorem F64.isBound_two : F64.two.IsBound := F64.isBound_ofNat 2

theorem F64.finite_two : F64.two.finite = true := F64.finite_ofNat (by decide)

theorem Config.halfFs_eq {c : Config} (h : c.legal = true) :
    c.halfFs = F64.ofMag false (F64.roundMag (c.fs * F64.one1074 * F64.one1074)
      (2 * F64.one1074)) := by
  have hfs := Config.fs_bounds h
  have hfin : c.fsF.finite = true := F64.finite_ofNat (by omega)
  have hunits : c.fsF.units = c.fs * F64.one1074 := F64.units_ofNat (by omega)
  have htwo : F64.two.units = 2 * F64.one1074 := F64.units_ofNat (by decide)
  have hzero : F64.two.isZero = false := by decide +kernel
  rw [Config.halfFs, F64.div_of_finite hfin F64.finite_two hzero, hunits, htwo,
    (Config.isBound_fsF c).sign, F64.isBound_two.sign, bne_self_eq_false]

/-- FS/2 lies between 4000.0 and 384000.0. -/
theorem Config.halfFs_bounds {c : Config} (h : c.legal = true) :
    c.halfFs.IsBound ∧ (F64.ofNat 4000).mag ≤ c.halfFs.mag ∧ c.halfFs.AtMost 384000 := by
  have hfs := Config.fs_bounds h
  have hpos : 0 < 2 * F64.one1074 := Nat.mul_pos two_pos F64.one1074_pos
  have hscale : ∀ k, k * F64.one1074 * (2 * F64.one1074) =
      k * 2 * (F64.one1074 * F64.one1074) := fun k => by ring
  rw [Config.halfFs_eq h, F64.AtMost, F64.mag_ofMag_roundMag]
  refine ⟨F64.isBound_ofMag (F64.roundMag_le_inf _ _), F64.ofNat_le_roundMag hpos ?_,
    F64.roundMag_le_ofNat hpos ?_⟩
  · rw [hscale, Nat.mul_assoc c.fs]
    exact Nat.mul_le_mul_right _ hfs.1
  · rw [hscale, Nat.mul_assoc c.fs]
    exact Nat.mul_le_mul_right _ hfs.2

theorem Config.isBound_halfFs {c : Config} (h : c.legal = true) : c.halfFs.IsBound :=
  (Config.halfFs_bounds h).1

theorem Config.le_halfFs {c : Config} (h : c.legal = true) {k : Nat} (hk : k ≤ 4000) :
    (F64.ofNat k).mag ≤ c.halfFs.mag :=
  (F64.mag_ofNat_mono hk).trans (Config.halfFs_bounds h).2.1

theorem Config.halfFs_atMost {c : Config} (h : c.legal = true) : c.halfFs.AtMost 384000 :=
  (Config.halfFs_bounds h).2.2

/-- FS/2 - 1.0 is a number of at least 20.0, before and after rounding. -/
theorem Config.nyquist_bounds {c : Config} (h : c.legal = true) :
    (F64.sub c.halfFs F64.one).IsBound ∧
      (F64.ofNat 20).mag ≤ (F64.sub c.halfFs F64.one).mag := by
  have hhalf := Config.isBound_halfFs h
  have hone : F64.one.units = 1 * F64.one1074 := F64.units_ofNat (by decide)
  have hunits : 4000 * F64.one1074 ≤ c.halfFs.units :=
    (F64.units_ofNat (by decide)).symm.trans_le (F64.units_mono (Config.le_halfFs h le_rfl))
  have hdiff : c.halfFs.signedUnits + F64.one.neg.signedUnits = c.halfFs.units - F64.one1074 := by
    rw [F64.signedUnits_neg, F64.signedUnits, F64.signedUnits, hhalf.sign, F64.isBound_one.sign,
      hone, Nat.one_mul]
    rfl
  have hpos := F64.one1074_pos
  rw [F64.sub_of_finite ((Config.halfFs_atMost h).finite (by decide)) F64.finite_one, F64.addFinite,
    hdiff, if_neg (by omega), decide_eq_false (by omega), F64.mag_ofMag_roundMag]
  exact ⟨F64.isBound_ofMag (F64.roundMag_le_inf _ _), F64.ofNat_le_roundMag one_pos (by omega)⟩

theorem F64.min_cases {a b : F64} (ha : a.IsBound) (hb : b.IsBound) :
    F64.min a b = a ∨ F64.min a b = b := by
  rw [F64.min, ha.not_nan, hb.not_nan, Bool.or_self, if_neg Bool.false_ne_true]
  exact (ite_eq_or_eq _ _ _).symm

theorem F64.max_cases {a b : F64} (ha : a.IsBound) (hb : b.IsBound) :
    F64.max a b = a ∨ F64.max a b = b := by
  rw [F64.max, ha.not_nan, hb.not_nan, Bool.or_self, if_neg Bool.false_ne_true]
  exact (ite_eq_or_eq _ _ _).symm

/-- The cutoff's range is not empty (R236). -/
theorem Config.cutoffMax_bounds {c : Config} (h : c.legal = true) :
    c.cutoffMax.IsBound ∧ cutoffMin.mag ≤ c.cutoffMax.mag := by
  obtain ⟨hbound, hle⟩ := Config.nyquist_bounds h
  unfold Config.cutoffMax
  rcases F64.min_cases (F64.isBound_ofNat 20000) hbound with heq | heq <;> rw [heq]
  · exact ⟨F64.isBound_ofNat _, F64.mag_ofNat_mono (by decide)⟩
  · exact ⟨hbound, hle⟩

theorem noteToFrequency_127_bounds :
    (noteToFrequency 127 0).sign = false ∧
      (noteToFrequency 127 0).mag ≤ (F64.ofNat 384000).mag := by
  decide +kernel

/-- The bound of R162 on a base frequency is a number of at most 384000.0. -/
theorem freqLimit_bounds {c : Config} (h : c.legal = true) :
    (freqLimit c).IsBound ∧ (freqLimit c).AtMost 384000 := by
  obtain ⟨hsign, hmag⟩ := noteToFrequency_127_bounds
  have hnote : (noteToFrequency 127 0).IsBound :=
    ⟨hsign, hmag.trans (F64.isBound_ofNat _).number⟩
  unfold freqLimit
  rcases F64.max_cases (Config.isBound_halfFs h) hnote with heq | heq <;> rw [heq]
  · exact ⟨Config.isBound_halfFs h, Config.halfFs_atMost h⟩
  · exact ⟨hnote, hmag⟩

/-! ### The values that commands write -/

theorem f127_isBound : f127.IsBound := F64.isBound_ofNat 127

theorem finite_f127 : f127.finite = true := F64.finite_ofNat (by decide)

theorem f127_ne_zero : f127.isZero = false := by decide +kernel

/-- A value in [0, 127] over 127 is in [0, 1] (R154). -/
theorem vgain_range {v : F64} (h : within F64.zero f127 v = true) :
    within F64.zero F64.one (vgain v) = true := by
  obtain ⟨hmag, hzero⟩ := (within_zero_iff f127_isBound).mp h
  have hdiv : ∀ {a}, v.AtMost (a * 127) → a * 127 < 2 ^ 53 → (vgain v).AtMost a := fun hv ha =>
    hv.div le_rfl ha (by decide) (by decide) finite_f127
  have hle : (vgain v).AtMost 1 := hdiv hmag (by decide)
  refine (within_zero_iff F64.isBound_one).mpr ⟨hle, fun hs => F64.atMost_zero_iff.mp ?_⟩
  have hfin : v.finite = true := F64.AtMost.finite (a := 127) hmag (by decide)
  rw [vgain, F64.div_of_finite hfin finite_f127 f127_ne_zero, F64.sign_ofMag,
    f127_isBound.sign, Bool.bne_false] at hs
  exact hdiv (F64.atMost_zero_iff.mpr (hzero hs)) (by decide)

/-- A level command writes a level in [0, 1] (R333, R336). -/
theorem levelOf_range {x : F64} (hx : x.finite = true) :
    within F64.zero F64.one (levelOf x) = true :=
  vgain_range (within_clamp hx (by decide) f127_isBound.not_nan (F64.le_zero_bound f127_isBound))

/-- A frequency or depth command writes a value in [-FS/2, FS/2] (R157, R186, R187). -/
theorem freqOf_range {c : Config} (h : c.legal = true) {x : F64} (hx : x.finite = true) :
    within c.halfFs.neg c.halfFs (freqOf c x) = true := by
  have hb := Config.isBound_halfFs h
  exact within_clamp hx (hb.neg_not_nan) hb.not_nan (F64.le_neg_bound hb)

/-- A cutoff command writes a cutoff in its range (R236). -/
theorem cutoffOf_range {c : Config} (h : c.legal = true) {x : F64} (hx : x.finite = true) :
    within cutoffMin c.cutoffMax (cutoffOf c x) = true := by
  obtain ⟨hb, hle⟩ := Config.cutoffMax_bounds h
  have hmin : cutoffMin.IsBound := F64.isBound_ofNat 20
  exact within_clamp hx hmin.not_nan hb.not_nan ((hmin.le_iff hb).mpr hle)

theorem qRange_nonempty :
    qMin.isNaN = false ∧ qMax.isNaN = false ∧ F64.le qMin qMax = true := by
  decide +kernel

/-- A resonance command writes a Q in its range (R237). -/
theorem resonanceOf_range {x : F64} (hx : x.finite = true) :
    within qMin qMax (resonanceOf x) = true :=
  within_clamp hx qRange_nonempty.1 qRange_nonempty.2.1 qRange_nonempty.2.2

/-! ### Ramp lengths (R191) -/

/-- The ramp length before it is rounded: ((x/127.0) × 5.0) × FS. -/
def rampSamples (c : Config) (x : BitVec 7) : F64 :=
  F64.mul (F64.mul (F64.div (F64.ofNat x.toNat) f127) (F64.ofNat 5)) c.fsF

/-- It lies in [0.0, 5 × FS]. -/
theorem rampSamples_bounds {c : Config} (h : c.legal = true) (x : BitVec 7) :
    (rampSamples c x).AtMost (5 * c.fs) ∧ (rampSamples c x).IsBound := by
  have hfs := Config.fs_bounds h
  have hx : (F64.ofNat x.toNat).AtMost (1 * 127) := F64.atMost_ofNat (by omega)
  have hratio : (F64.div (F64.ofNat x.toNat) f127).AtMost 1 :=
    hx.div le_rfl (by decide) (by decide) (by decide) finite_f127
  have hfive : (F64.ofNat 5).AtMost 5 := F64.atMost_ofNat (le_refl 5)
  have hseconds := hratio.mul hfive (by decide) (by decide)
  have hfsF : c.fsF.AtMost c.fs := F64.atMost_ofNat (le_refl c.fs)
  refine ⟨hseconds.mul hfsF (by decide) (by omega), ?_⟩
  have hratioB := (F64.isBound_ofNat x.toNat).div f127_isBound (hx.finite (by decide)) finite_f127
    f127_ne_zero
  have hsecondsB := hratioB.mul (F64.isBound_ofNat 5) (hratio.finite (by decide))
    (hfive.finite (by decide))
  exact hsecondsB.mul c.isBound_fsF (hseconds.finite (by decide)) (hfsF.finite (by omega))

/-- The rounded ramp length fits its 64 bits. -/
theorem rampLen_toNat {c : Config} (h : c.legal = true) (x : BitVec 7) :
    ((rampLen c x).toNat : Int) = F64.rne (rampSamples c x) ∧ (rampLen c x).toNat ≤ 5 * c.fs := by
  have hfs := Config.fs_bounds h
  obtain ⟨hmost, hbound⟩ := rampSamples_bounds h x
  have hrne := hmost.rne_le (by omega) hbound.sign
  have hlen : rampLen c x = BitVec.ofInt 64 (F64.rne (rampSamples c x)) := rfl
  rw [hlen, BitVec.toNat_ofInt]
  omega

end Sys2Proof
end

section
/-! SUPPORT. What a command writes, and what one step of the machine does to the configuration and
the sound registers, said once for the invariants. -/

namespace Sys2Proof.Machine

/-! ### What a command writes (R152, R195 to R198, R232, R333 to R347) -/

/-- What a command can do to an oscillator: its phase and its octave stay (R163). -/
structure OscWrite (c : Config) (o o' : Osc) : Prop where
  phase : o'.phase = o.phase
  oct : o'.oct = o.oct
  level : o'.level = o.level ∨ ∃ x : F64, x.finite = true ∧ o'.level = levelOf x
  freq : o'.freq = o.freq ∨ (∃ x : F64, x.finite = true ∧ o'.freq = freqOf c x) ∨
    ∃ note : BitVec 7, o'.freq = noteToFrequency note.toNat o.oct

/-- What a command can do to the LFO: its phase stays (R182). -/
structure LfoWrite (c : Config) (o o' : Lfo) : Prop where
  phase : o'.phase = o.phase
  level : o'.level = o.level ∨ ∃ x : F64, x.finite = true ∧ o'.level = freqOf c x
  freq : o'.freq = o.freq ∨ ∃ x : F64, x.finite = true ∧ o'.freq = freqOf c x

/-- What a command can do to the filter: a parameter write recomputes the coefficients (R232). -/
inductive FltWrite (c : Config) (f : Flt) : Flt → Prop
  | kept : FltWrite c f f
  | cutoff (x : F64) (hx : x.finite = true) : FltWrite c f (f.setCutoff c x)
  | resonance (x : F64) (hx : x.finite = true) : FltWrite c f (f.setResonance c x)
  | type (k : FilterType) : FltWrite c f (f.setType c k)

/-- What a command can do to the envelope. -/
inductive EnvWrite (c : Config) (e : Env) : Env → Prop
  | params (a d s r : BitVec 7) : EnvWrite c e { e with a := a, d := d, s := s, r := r }
  | trigger (vel : BitVec 7) : EnvWrite c e (e.triggerOn c vel)
  | release : EnvWrite c e (e.triggerOff c)

/-- The configuration stays and the sound registers take what a command can write. -/
structure VoiceWrite (s t : State) : Prop where
  cfg : t.cfg = s.cfg
  osc : OscWrite s.cfg s.osc t.osc
  sub : OscWrite s.cfg s.sub t.sub
  lfo : LfoWrite s.cfg s.lfo t.lfo
  flt : FltWrite s.cfg s.flt t.flt
  env : EnvWrite s.cfg s.env t.env

/-- Everything a command can write: the sound registers, NOTE.ACTIVE and NOTE.LAST. -/
structure CommandWrite (s t : State) : Prop extends VoiceWrite s t where
  frame : t = { s with
    osc := t.osc, sub := t.sub, lfo := t.lfo, flt := t.flt, env := t.env,
    noteActive := t.noteActive, noteLast := t.noteLast }

theorem OscWrite.refl (c : Config) (o : Osc) : OscWrite c o o := ⟨rfl, rfl, .inl rfl, .inl rfl⟩

theorem LfoWrite.refl (c : Config) (o : Lfo) : LfoWrite c o o := ⟨rfl, .inl rfl, .inl rfl⟩

theorem EnvWrite.refl (c : Config) (e : Env) : EnvWrite c e e := .params e.a e.d e.s e.r

theorem VoiceWrite.refl (s : State) : VoiceWrite s s :=
  ⟨rfl, .refl _ _, .refl _ _, .refl _ _, .kept, .refl _ _⟩

theorem CommandWrite.refl (s : State) : CommandWrite s s := ⟨.refl s, rfl⟩

section
variable {s : State}

theorem CommandWrite.setOsc {o : Osc} (h : OscWrite s.cfg s.osc o) : CommandWrite s (s.setOsc o) :=
  ⟨⟨rfl, h, .refl _ _, .refl _ _, .kept, .refl _ _⟩, rfl⟩

theorem CommandWrite.setSub {o : Osc} (h : OscWrite s.cfg s.sub o) : CommandWrite s (s.setSub o) :=
  ⟨⟨rfl, .refl _ _, h, .refl _ _, .kept, .refl _ _⟩, rfl⟩

theorem CommandWrite.setLfo {o : Lfo} (h : LfoWrite s.cfg s.lfo o) : CommandWrite s (s.setLfo o) :=
  ⟨⟨rfl, .refl _ _, .refl _ _, h, .kept, .refl _ _⟩, rfl⟩

theorem CommandWrite.setFlt {f : Flt} (h : FltWrite s.cfg s.flt f) : CommandWrite s (s.setFlt f) :=
  ⟨⟨rfl, .refl _ _, .refl _ _, .refl _ _, h, .refl _ _⟩, rfl⟩

theorem CommandWrite.setEnv {e : Env} (h : EnvWrite s.cfg s.env e) : CommandWrite s (s.setEnv e) :=
  ⟨⟨rfl, .refl _ _, .refl _ _, .refl _ _, .kept, h⟩, rfl⟩

end

section
variable (c : Config) (o : Osc)

theorem OscWrite.setKind (k : Waveform) : OscWrite c o { o with kind := k } :=
  ⟨rfl, rfl, .inl rfl, .inl rfl⟩

theorem OscWrite.setLevel {x : F64} (hx : x.finite = true) :
    OscWrite c o { o with level := levelOf x } :=
  ⟨rfl, rfl, .inr ⟨x, hx, rfl⟩, .inl rfl⟩

theorem OscWrite.setFreq {x : F64} (hx : x.finite = true) :
    OscWrite c o { o with freq := freqOf c x } :=
  ⟨rfl, rfl, .inl rfl, .inr (.inl ⟨x, hx, rfl⟩)⟩

theorem OscWrite.playNote (note : BitVec 7) : OscWrite c o (o.playNote note) :=
  ⟨rfl, rfl, .inl rfl, .inr (.inr ⟨note, rfl⟩)⟩

theorem LfoWrite.setLevel (l : Lfo) {x : F64} (hx : x.finite = true) :
    LfoWrite c l { l with level := freqOf c x } :=
  ⟨rfl, .inr ⟨x, hx, rfl⟩, .inl rfl⟩

theorem LfoWrite.setFreq (l : Lfo) {x : F64} (hx : x.finite = true) :
    LfoWrite c l { l with freq := freqOf c x } :=
  ⟨rfl, .inl rfl, .inr ⟨x, hx, rfl⟩⟩

end

theorem State.noteOn_zero (note : BitVec 7) (s : State) :
    s.noteOn note (some 0) = s.noteOn note none := rfl

theorem CommandWrite.noteOn (s : State) (note vel : BitVec 7) (last : BitVec 32) :
    CommandWrite s ((s.noteOn note (some vel)).setNoteLast last) := by
  by_cases h : vel = 0
  · rw [h, State.noteOn_zero]
    exact ⟨⟨rfl, .playNote _ _ _, .playNote _ _ _, .refl _ _, .kept, .refl _ _⟩, rfl⟩
  · rw [State.noteOn_some h]
    exact ⟨⟨rfl, .playNote _ _ _, .playNote _ _ _, .refl _ _, .kept, .trigger vel⟩, rfl⟩

theorem CommandWrite.noteOff (s : State) (note : BitVec 7) (last : BitVec 32) :
    CommandWrite s ((s.noteOff note).setNoteLast last) := by
  by_cases h : s.noteActive &&& ~~~ noteBit note = 0
  · rw [State.noteOff_last h]
    exact ⟨⟨rfl, .refl _ _, .refl _ _, .refl _ _, .kept, .release⟩, rfl⟩
  · rw [State.noteOff_held h]
    exact ⟨⟨rfl, .playNote _ _ _, .playNote _ _ _, .refl _ _, .kept, .refl _ _⟩, rfl⟩

theorem next_inj {s t : State} (h : (.next s : StepResult) = .next t) : t = s := by
  cases h
  rfl

/-- A parameter command answers its state or its rule on a finite value (R330). -/
theorem withValue_next {v : F64} {f : F64 → State → State} {s t : State}
    (h : withValue v f s = .next t) : t = s ∨ ∃ x : F64, x.finite = true ∧ t = f x s := by
  cases hv : v.finite with
  | false =>
    rw [withValue_not_finite hv] at h
    exact .inl (next_inj h)
  | true =>
    rw [withValue_finite hv] at h
    refine .inr ⟨_, ?_, next_inj h⟩
    split
    · decide
    · exact hv

theorem CommandWrite.of_withValue {v : F64} {f : F64 → State → State} {s t : State}
    (hf : ∀ x : F64, x.finite = true → CommandWrite s (f x s)) (h : withValue v f s = .next t) :
    CommandWrite s t := by
  obtain rfl | ⟨x, hx, rfl⟩ := withValue_next h
  · exact .refl t
  · exact hf x hx

theorem CommandWrite.setOscType (x : F64) (s : State) : CommandWrite s (s.setOscType x) := by
  obtain h | ⟨k, h⟩ := State.setOscType_cases x s <;> rw [h]
  · exact .refl s
  · exact .setOsc (.setKind _ _ k)

theorem CommandWrite.setSubType (x : F64) (s : State) : CommandWrite s (s.setSubType x) := by
  obtain h | ⟨k, h⟩ := State.setSubType_cases x s <;> rw [h]
  · exact .refl s
  · exact .setSub (.setKind _ _ k)

theorem CommandWrite.setFilterType (x : F64) (s : State) :
    CommandWrite s (s.setFilterType x) := by
  obtain h | ⟨k, h⟩ := State.setFilterType_cases x s <;> rw [h]
  · exact .refl s
  · exact .setFlt (.type k)

/-- Every command writes only what `CommandWrite` allows. -/
theorem exec_next {i : Instr} {s t : State} (h : exec i s = .next t) : CommandWrite s t := by
  cases i with
  | nop | midiActiveSensing | midiBadLength | midiOther | paramUnknownDest | paramUnknownParam
  | reservedKind =>
    rw [show t = s from next_inj h]
    exact .refl s
  | midiNoteOn b1 b2 =>
    rw [next_inj h]
    exact .noteOn s _ _ _
  | midiNoteOnVel0 b1 =>
    rw [next_inj h]
    exact .noteOff s _ _
  | midiNoteOff b1 b2 =>
    rw [next_inj h]
    exact .noteOff s _ _
  | paramOscLevel v =>
    unfold exec execParamOscLevel at h
    exact .of_withValue (fun _ hx => .setOsc (.setLevel _ _ hx)) h
  | paramSubLevel v =>
    unfold exec execParamSubLevel at h
    exact .of_withValue (fun _ hx => .setSub (.setLevel _ _ hx)) h
  | paramOscFrequency v =>
    unfold exec execParamOscFrequency at h
    exact .of_withValue (fun _ hx => .setOsc (.setFreq _ _ hx)) h
  | paramSubFrequency v =>
    unfold exec execParamSubFrequency at h
    exact .of_withValue (fun _ hx => .setSub (.setFreq _ _ hx)) h
  | paramOscType v =>
    unfold exec execParamOscType at h
    exact .of_withValue (fun x _ => .setOscType x s) h
  | paramSubType v =>
    unfold exec execParamSubType at h
    exact .of_withValue (fun x _ => .setSubType x s) h
  | paramFilterCutoff v =>
    unfold exec execParamFilterCutoff at h
    exact .of_withValue (fun x hx => .setFlt (.cutoff x hx)) h
  | paramFilterResonance v =>
    unfold exec execParamFilterResonance at h
    exact .of_withValue (fun x hx => .setFlt (.resonance x hx)) h
  | paramFilterType v =>
    unfold exec execParamFilterType at h
    exact .of_withValue (fun x _ => .setFilterType x s) h
  | paramEnvAttack v =>
    unfold exec execParamEnvAttack at h
    exact .of_withValue (fun x _ => .setEnv (.params (envParamOf x) _ _ _)) h
  | paramEnvDecay v =>
    unfold exec execParamEnvDecay at h
    exact .of_withValue (fun x _ => .setEnv (.params _ (envParamOf x) _ _)) h
  | paramEnvSustain v =>
    unfold exec execParamEnvSustain at h
    exact .of_withValue (fun x _ => .setEnv (.params _ _ (envParamOf x) _)) h
  | paramEnvRelease v =>
    unfold exec execParamEnvRelease at h
    exact .of_withValue (fun x _ => .setEnv (.params _ _ _ (envParamOf x))) h
  | paramLfoLevel v =>
    unfold exec execParamLfoLevel at h
    exact .of_withValue (fun _ hx => .setLfo (.setLevel _ _ hx)) h
  | paramLfoFrequency v =>
    unfold exec execParamLfoFrequency at h
    exact .of_withValue (fun _ hx => .setLfo (.setFreq _ _ hx)) h

section
variable {s t : State}

theorem CommandWrite.fifo (h : CommandWrite s t) : t.fifo = s.fifo := by
  rw [h.frame]

theorem CommandWrite.seq (h : CommandWrite s t) : t.seq = s.seq := by
  rw [h.frame]

theorem CommandWrite.ovf (h : CommandWrite s t) : t.ovf = s.ovf := by
  rw [h.frame]

end

/-! ### What a step does -/

/-- What one act of the host can be: a change of its own records, a push, a reset for a legal
configuration, or a step of the engine. -/
theorem hostStep_cases {a : HostAction} {rest : List HostAction} {s t : State}
    (h : hostStep a rest s = .next t) :
    (∃ o, t = s.setOutside o) ∨
    (∃ o w, t = (s.setOutside o).pushWord w) ∨
    (∃ c, a = .reset c ∧ c.legal = true ∧ ∃ o, t = (State.resetWith c).setOutside o) ∨
    (∃ o o' u, engineStep (s.setOutside o) = .next u ∧ t = u.setOutside o') := by
  unfold hostStep at h
  split at h
  case h_1 w => exact .inr (.inl ⟨_, w, next_inj h⟩)
  case h_2 bytes =>
    split at h
    · exact .inr (.inl ⟨_, _, next_inj h⟩)
    · contradiction
  case h_3 i =>
    split at h
    · exact .inl ⟨_, next_inj h⟩
    · contradiction
  case h_4 i =>
    split at h
    · exact .inl ⟨_, next_inj h⟩
    · contradiction
  case h_5 c =>
    unfold State.resetTo at h
    split at h
    · contradiction
    · split at h
      · exact .inr (.inr (.inl ⟨c, rfl, ‹_›, _, next_inj h⟩))
      · contradiction
  case h_6 => exact .inr (.inr (.inr ⟨_, t.outside, t, h, rfl⟩))
  case h_7 => exact .inl ⟨_, next_inj h⟩
  case h_8 n =>
    split at h
    · exact .inr (.inr (.inr ⟨_, _, _, ‹_›, next_inj h⟩))
    · contradiction
    · contradiction

/-- What one step of the machine can be. A state with its host's acts and records replaced is the
same engine. -/
theorem step_cases {s t : State} (h : step s = .next t) :
    (∃ o, t = s.setOutside o) ∨
    (∃ o w, t = (s.setOutside o).pushWord w) ∨
    (∃ c rest, s.outside.script = .reset c :: rest ∧ c.legal = true ∧
      ∃ o, t = (State.resetWith c).setOutside o) ∨
    (∃ o o' u, engineStep (s.setOutside o) = .next u ∧ t = u.setOutside o') := by
  rcases hs : s.outside.script with _ | ⟨a, rest⟩
  · rw [step, machineStep_no_script hs] at h
    exact .inr (.inr (.inr ⟨s.outside, t.outside, t, h, rfl⟩))
  · rw [step, machineStep_script hs] at h
    obtain h | h | ⟨c, rfl, hc⟩ | h := hostStep_cases h
    · exact .inl h
    · exact .inr (.inl h)
    · exact .inr (.inr (.inl ⟨c, rest, rfl, hc⟩))
    · exact .inr (.inr (.inr h))

/-- Two states with the same configuration and the same sound registers. -/
structure SameVoice (s t : State) : Prop where
  cfg : t.cfg = s.cfg
  osc : t.osc = s.osc
  sub : t.sub = s.sub
  lfo : t.lfo = s.lfo
  flt : t.flt = s.flt
  env : t.env = s.env

/-- What a step can do to the configuration and the sound registers: what a command can write
(nothing included), a tick, or a reset for a legal configuration. -/
inductive VoiceStep (s t : State) : Prop
  | write (h : VoiceWrite s t)
  | tick (h : SameVoice s.tick t)
  | reset (c : Config) (legal : c.legal = true) (h : SameVoice (State.resetWith c) t)

theorem VoiceStep.of_same {s t : State} (h : SameVoice s t) : VoiceStep s t :=
  .write ⟨h.cfg, h.osc ▸ .refl _ _, h.sub ▸ .refl _ _, h.lfo ▸ .refl _ _, h.flt ▸ .kept,
    h.env ▸ .refl _ _⟩

/-- What a step of the engine can do to them. -/
theorem engineStep_voice {s t : State} (h : engineStep s = .next t) : VoiceStep s t := by
  obtain ⟨-, h'⟩ | ⟨-, h'⟩ | ⟨w, ws, -, h'⟩ | ⟨-, h'⟩ | ⟨n, -, h'⟩ := engineStep_cases s <;>
    rw [h'] at h
  · rw [next_inj h]
    exact .of_same ⟨rfl, rfl, rfl, rfl, rfl, rfl⟩
  · rw [next_inj h]
    exact .of_same ⟨rfl, rfl, rfl, rfl, rfl, rfl⟩
  · obtain ⟨hcfg, hosc, hsub, hlfo, hflt, henv⟩ := (exec_next h).toVoiceWrite
    exact .write ⟨hcfg, hosc, hsub, hlfo, hflt, henv⟩
  · rw [next_inj h]
    exact .of_same ⟨rfl, rfl, rfl, rfl, rfl, rfl⟩
  · rw [next_inj h]
    exact .tick ⟨rfl, rfl, rfl, rfl, rfl, rfl⟩

theorem step_voice {s t : State} (h : step s = .next t) : VoiceStep s t := by
  obtain ⟨o, rfl⟩ | ⟨o, w, rfl⟩ | ⟨c, rest, -, hc, o, rfl⟩ | ⟨o, o', u, hu, rfl⟩ := step_cases h
  · exact .of_same ⟨rfl, rfl, rfl, rfl, rfl, rfl⟩
  · exact .of_same ⟨rfl, rfl, rfl, rfl, rfl, rfl⟩
  · exact .reset c hc ⟨rfl, rfl, rfl, rfl, rfl, rfl⟩
  · cases engineStep_voice hu with
    | write hw =>
      obtain ⟨hcfg, hosc, hsub, hlfo, hflt, henv⟩ := hw
      exact .write ⟨hcfg, hosc, hsub, hlfo, hflt, henv⟩
    | tick ht =>
      obtain ⟨hcfg, hosc, hsub, hlfo, hflt, henv⟩ := ht
      exact .tick ⟨hcfg, hosc, hsub, hlfo, hflt, henv⟩
    | reset c hc hr =>
      obtain ⟨hcfg, hosc, hsub, hlfo, hflt, henv⟩ := hr
      exact .reset c hc ⟨hcfg, hosc, hsub, hlfo, hflt, henv⟩

end Sys2Proof.Machine
end

section
/-! SUPPORT. The invariants of R50 are kept by every step, and reset meets them. -/

namespace Sys2Proof.Machine

/-! ### The structural invariants (R37, R45, R50, R84) -/

/-- The part of `State.Inv` that speaks of the configuration and the sound registers. -/
structure VoiceInv (s : State) : Prop where
  cfgLegal : s.cfg.legal = true
  octaves : s.osc.oct = s.cfg.oscOctave ∧ s.sub.oct = s.cfg.subOctave
  coefficients : s.flt = s.flt.recompute s.cfg
  segments : segmentsMatchMode s.env

/-- The part of `State.Inv` that speaks of the FIFO and the place in the block step. -/
structure QueueInv (s : State) : Prop where
  fifoFits : s.fifo.length ≤ s.cfg.fifoDepth
  batchFits : ∀ batch, s.seq = .applying batch → batch.length ≤ s.cfg.fifoDepth
  ticksFit : ∀ n, s.seq = .ticking n → n ≤ s.cfg.block

theorem inv_iff {s : State} : s.Inv ↔ VoiceInv s ∧ QueueInv s :=
  ⟨fun h => ⟨⟨h.cfgLegal, h.octaves, h.coefficients, h.segments⟩,
      ⟨h.fifoFits, h.batchFits, h.ticksFit⟩⟩,
    fun ⟨hv, hq⟩ => ⟨hv.cfgLegal, hv.octaves, hq.fifoFits, hq.batchFits, hq.ticksFit,
      hv.coefficients, hv.segments⟩⟩

theorem VoiceInv.of_same {s t : State} (hs : VoiceInv s) (h : SameVoice s t) : VoiceInv t := by
  obtain ⟨hcfg, hosc, hsub, -, hflt, henv⟩ := h
  refine ⟨?_, ?_, ?_, ?_⟩
  · rw [hcfg]
    exact hs.cfgLegal
  · rw [hosc, hsub, hcfg]
    exact hs.octaves
  · rw [hflt, hcfg]
    exact hs.coefficients
  · rw [henv]
    exact hs.segments

/-- Every filter write leaves the coefficients the function of the parameters: where it writes a
parameter it recomputes (R232, R239). -/
theorem FltWrite.recompute_eq {c : Config} {f f' : Flt} (h : FltWrite c f f')
    (hf : f = f.recompute c) : f' = f'.recompute c := by
  cases h with
  | kept => exact hf
  | cutoff x hx => exact (recompute_recompute c { f with cutoff := cutoffOf c x }).symm
  | resonance x hx => exact (recompute_recompute c { f with q := resonanceOf x }).symm
  | type k => exact (recompute_recompute c { f with type := k }).symm

/-- The delay line is not read by `recompute` and is kept by it (R234, R239). -/
theorem shift_recompute (c : Config) (f : Flt) (x : F64) :
    (f.shift x).recompute c =
      { f.recompute c with x2 := f.x1, x1 := x, y2 := f.y1, y1 := f.output x } := rfl

theorem shift_recompute_eq {c : Config} {f : Flt} (hf : f = f.recompute c) (x : F64) :
    f.shift x = (f.shift x).recompute c := by
  rw [shift_recompute, ← hf]
  rfl

theorem EnvWrite.segmentsMatchMode {c : Config} {e e' : Env} (h : EnvWrite c e e')
    (he : segmentsMatchMode e) : segmentsMatchMode e' := by
  cases h with
  | params a d s r => exact he
  | trigger vel =>
    unfold Env.triggerOn Env.attack
    split <;> simp [Machine.segmentsMatchMode]
  | release => simp [Env.triggerOff, Machine.segmentsMatchMode]

theorem resetEnv_segmentsMatchMode : segmentsMatchMode resetEnv := by
  unfold segmentsMatchMode
  decide

theorem VoiceInv.reset {c : Config} (hc : c.legal = true) : VoiceInv (State.resetWith c) where
  cfgLegal := hc
  octaves := ⟨rfl, rfl⟩
  coefficients := (recompute_recompute _ _).symm
  segments := resetEnv_segmentsMatchMode

theorem QueueInv.reset (c : Config) : QueueInv (State.resetWith c) where
  fifoFits := Nat.zero_le _
  batchFits _ h := nomatch h
  ticksFit _ h := nomatch h

/-- Settles O40: the FIFO is empty, no batch is being applied, the coefficients are recomputed. -/
theorem resetMeetsTheInvariants : Obligations.ResetMeetsTheInvariants :=
  fun c hc => inv_iff.mpr ⟨.reset hc, .reset c⟩

theorem VoiceInv.of_voiceStep {s t : State} (hs : VoiceInv s) (h : VoiceStep s t) : VoiceInv t := by
  cases h with
  | write h =>
    obtain ⟨hcfg, hosc, hsub, -, hflt, henv⟩ := h
    refine ⟨?_, ?_, ?_, henv.segmentsMatchMode hs.segments⟩
    · rw [hcfg]
      exact hs.cfgLegal
    · rw [hosc.oct, hsub.oct, hcfg]
      exact hs.octaves
    · rw [hcfg]
      exact hflt.recompute_eq hs.coefficients
  | tick h =>
    refine VoiceInv.of_same ?_ h
    exact ⟨hs.cfgLegal, hs.octaves, shift_recompute_eq hs.coefficients _, hs.segments⟩
  | reset c hc h => exact (VoiceInv.reset hc).of_same h

theorem QueueInv.of_same {s t : State} (hs : QueueInv s) (hcfg : t.cfg = s.cfg)
    (hfifo : t.fifo = s.fifo) (hseq : t.seq = s.seq) : QueueInv t := by
  constructor
  · rw [hfifo, hcfg]
    exact hs.fifoFits
  · rw [hseq, hcfg]
    exact hs.batchFits
  · rw [hseq, hcfg]
    exact hs.ticksFit

/-- A push never grows the FIFO past FIFO_DEPTH (R45, R82). -/
theorem length_fifoAfterPush {s : State} (h : s.fifo.length ≤ s.cfg.fifoDepth) (w : CommandWord) :
    (fifoAfterPush w s).length ≤ s.cfg.fifoDepth := by
  unfold fifoAfterPush
  split
  · rw [List.length_append, List.length_singleton]
    omega
  · exact h

theorem QueueInv.pushWord {s : State} (hs : QueueInv s) (w : CommandWord) :
    QueueInv (s.pushWord w) :=
  ⟨length_fifoAfterPush hs.fifoFits w, hs.batchFits, hs.ticksFit⟩

theorem QueueInv.applying {s : State} (hfifo : s.fifo.length ≤ s.cfg.fifoDepth)
    {batch : List CommandWord} (hseq : s.seq = .applying batch)
    (hbatch : batch.length ≤ s.cfg.fifoDepth) : QueueInv s where
  fifoFits := hfifo
  batchFits b hb := by
    rw [hseq, Seq.applying.injEq] at hb
    rwa [← hb]
  ticksFit n hn := by
    rw [hseq] at hn
    contradiction

theorem QueueInv.ticking {s : State} (hfifo : s.fifo.length ≤ s.cfg.fifoDepth) {n : Nat}
    (hseq : s.seq = .ticking n) (hn : n ≤ s.cfg.block) : QueueInv s where
  fifoFits := hfifo
  batchFits b hb := by
    rw [hseq] at hb
    contradiction
  ticksFit m hm := by
    rw [hseq, Seq.ticking.injEq] at hm
    rwa [← hm]

theorem QueueInv.of_engineStep {s t : State} (hs : QueueInv s) (h : engineStep s = .next t) :
    QueueInv t := by
  obtain ⟨-, h'⟩ | ⟨-, h'⟩ | ⟨w, ws, hseq, h'⟩ | ⟨-, h'⟩ | ⟨n, hseq, h'⟩ := engineStep_cases s <;>
    rw [h'] at h
  · rw [next_inj h]
    exact .applying (Nat.zero_le _) rfl hs.fifoFits
  · rw [next_inj h]
    exact .ticking hs.fifoFits rfl le_rfl
  · have hw := exec_next h
    have hbatch : ws.length + 1 ≤ s.cfg.fifoDepth := hs.batchFits (w :: ws) hseq
    have happlied : QueueInv (s.setSeq (.applying ws)) :=
      .applying hs.fifoFits rfl (Nat.le_of_succ_le hbatch)
    exact happlied.of_same hw.cfg hw.fifo hw.seq
  · rw [next_inj h]
    exact ⟨hs.fifoFits, fun _ hb => (nomatch hb), fun _ hn => (nomatch hn)⟩
  · rw [next_inj h]
    exact .ticking hs.fifoFits rfl (Nat.le_of_succ_le (hs.ticksFit (n + 1) hseq))

theorem QueueInv.of_step {s t : State} (hs : QueueInv s) (h : step s = .next t) : QueueInv t := by
  have hout : ∀ o, QueueInv (s.setOutside o) := fun o => hs.of_same rfl rfl rfl
  obtain ⟨o, rfl⟩ | ⟨o, w, rfl⟩ | ⟨c, rest, -, -, o, rfl⟩ | ⟨o, o', u, hu, rfl⟩ := step_cases h
  · exact hout o
  · exact (hout o).pushWord w
  · exact (QueueInv.reset c).of_same rfl rfl rfl
  · exact ((hout o).of_engineStep hu).of_same rfl rfl rfl

/-- Settles O41: the sound registers by what a step can do to them, the FIFO and the place in the
block by the step's own cases. -/
theorem everyStepKeepsTheInvariants : Obligations.EveryStepKeepsTheInvariants := by
  intro s t hs h
  obtain ⟨hvoice, hqueue⟩ := inv_iff.mp hs
  exact inv_iff.mpr ⟨hvoice.of_voiceStep (step_voice h), hqueue.of_step h⟩

/-! ### The overflow flag (R43, R83) -/

theorem engineStep_ovf {s t : State} (h : engineStep s = .next t) : t.ovf = s.ovf := by
  obtain ⟨-, h'⟩ | ⟨-, h'⟩ | ⟨w, ws, -, h'⟩ | ⟨-, h'⟩ | ⟨n, -, h'⟩ := engineStep_cases s <;>
    rw [h'] at h
  · rw [next_inj h, State.takeBatch_ovf]
  · rw [next_inj h, State.setSeq_ovf]
  · rw [(exec_next h).ovf, State.setSeq_ovf]
  · rw [next_inj h, State.publish_ovf]
  · rw [next_inj h, State.setSeq_ovf, State.tick_ovf]

/-- Settles O33: the engine never writes OVF and a push only sets it. -/
theorem overflowFlagIsSticky : Obligations.OverflowFlagIsSticky := by
  intro s t h hreset hovf
  obtain ⟨o, rfl⟩ | ⟨o, w, rfl⟩ | ⟨c, rest, hscript, -⟩ | ⟨o, o', u, hu, rfl⟩ := step_cases h
  · exact hovf
  · rw [State.pushWord_ovf, ovfAfterPush, State.setOutside_ovf, hovf, Bool.true_or]
  · exact absurd hscript (hreset c rest)
  · rw [State.setOutside_ovf, engineStep_ovf hu, State.setOutside_ovf, hovf]

/-! ### The ranges of the clamped registers (R33 to R36, R349) -/

theorem State.ParamsInRange.of_same {s t : State} (hs : s.ParamsInRange) (h : SameVoice s t) :
    t.ParamsInRange := by
  obtain ⟨hcfg, hosc, hsub, hlfo, hflt, -⟩ := h
  constructor
  · rw [hosc]
    exact hs.oscLevel
  · rw [hsub]
    exact hs.subLevel
  · rw [hlfo, hcfg]
    exact hs.lfoLevel
  · rw [hlfo, hcfg]
    exact hs.lfoFreq
  · rw [hflt, hcfg]
    exact hs.cutoff
  · rw [hflt]
    exact hs.resonance

theorem OscWrite.level_range {c : Config} {o o' : Osc} (h : OscWrite c o o')
    (ho : within F64.zero F64.one o.level = true) : within F64.zero F64.one o'.level = true := by
  obtain hl | ⟨x, hx, hl⟩ := h.level <;> rw [hl]
  · exact ho
  · exact levelOf_range hx

theorem LfoWrite.range {c : Config} {l l' : Lfo} (h : LfoWrite c l l') (hc : c.legal = true)
    (hl : within c.halfFs.neg c.halfFs l.level = true ∧
      within c.halfFs.neg c.halfFs l.freq = true) :
    within c.halfFs.neg c.halfFs l'.level = true ∧
      within c.halfFs.neg c.halfFs l'.freq = true := by
  constructor
  · obtain heq | ⟨x, hx, heq⟩ := h.level <;> rw [heq]
    · exact hl.1
    · exact freqOf_range hc hx
  · obtain heq | ⟨x, hx, heq⟩ := h.freq <;> rw [heq]
    · exact hl.2
    · exact freqOf_range hc hx

theorem FltWrite.range {c : Config} {f f' : Flt} (h : FltWrite c f f') (hc : c.legal = true)
    (hf : within cutoffMin c.cutoffMax f.cutoff = true ∧ within qMin qMax f.q = true) :
    within cutoffMin c.cutoffMax f'.cutoff = true ∧ within qMin qMax f'.q = true := by
  cases h with
  | kept => exact hf
  | cutoff x hx => exact ⟨cutoffOf_range hc hx, hf.2⟩
  | resonance x hx => exact ⟨hf.1, resonanceOf_range hx⟩
  | type k => exact hf

theorem resetQ_range : within qMin qMax resetQ = true := by decide +kernel

theorem State.ParamsInRange.reset {c : Config} (hc : c.legal = true) :
    (State.resetWith c).ParamsInRange where
  oscLevel := within_zero_self F64.isBound_one
  subLevel := within_zero_self F64.isBound_one
  lfoLevel := (within_neg_iff (Config.isBound_halfFs hc)).mpr
    (F64.mag_zero.trans_le (Nat.zero_le _))
  lfoFreq := (within_neg_iff (Config.isBound_halfFs hc)).mpr (Config.le_halfFs hc (by decide))
  cutoff := by
    obtain ⟨hb, hle⟩ := Config.cutoffMax_bounds hc
    exact within_of_mag_le (F64.isBound_ofNat 20) hb hb hle le_rfl
  resonance := resetQ_range

theorem State.ParamsInRange.of_voiceStep {s t : State} (hc : s.cfg.legal = true)
    (hs : s.ParamsInRange) (h : VoiceStep s t) : t.ParamsInRange := by
  cases h with
  | write h =>
    obtain ⟨hcfg, hosc, hsub, hlfo, hflt, -⟩ := h
    obtain ⟨hlevel, hfreq⟩ := hlfo.range hc ⟨hs.lfoLevel, hs.lfoFreq⟩
    obtain ⟨hcutoff, hq⟩ := hflt.range hc ⟨hs.cutoff, hs.resonance⟩
    rw [← hcfg] at hlevel hfreq hcutoff
    exact ⟨hosc.level_range hs.oscLevel, hsub.level_range hs.subLevel, hlevel, hfreq, hcutoff, hq⟩
  | tick h =>
    refine State.ParamsInRange.of_same ?_ h
    exact ⟨hs.oscLevel, hs.subLevel, hs.lfoLevel, hs.lfoFreq, hs.cutoff, hs.resonance⟩
  | reset c hc h => exact (State.ParamsInRange.reset hc).of_same h

/-- Settles O42: a command writes a clamped value, a tick writes none of these registers. -/
theorem everyStepKeepsParameterRanges : Obligations.EveryStepKeepsParameterRanges :=
  fun _ _ hc hs h => hs.of_voiceStep hc (step_voice h)

/-! ### The phases (R158, R162, R181) -/

/-- A phase is finite, so its sine is bounded (R181). -/
theorem finite_of_phaseOk {p : F64} (hp : phaseOk p = true) : p.finite = true :=
  F64.finite_iff.mpr ((phaseOk_iff.mp hp).1.trans (F64.finite_iff.mp F64.finite_one))

/-- The LFO's sample is at most FS/2 in magnitude (R181). -/
theorem lfoSample_atMost {c : Config} (hc : c.legal = true) {l : Lfo}
    (hlevel : within c.halfFs.neg c.halfFs l.level = true) (hp : phaseOk l.phase = true) :
    l.sample.AtMost 384000 := by
  have hl : l.level.AtMost 384000 :=
    ((within_neg_iff (Config.isBound_halfFs hc)).mp hlevel).trans (Config.halfFs_atMost hc)
  have hsine : (sinTurns l.phase).AtMost 1 :=
    (within_neg_iff F64.isBound_one).mp (sineIsBounded _ (finite_of_phaseOk hp)).1
  have hsample := hl.mul hsine (by decide) (by decide)
  rwa [Nat.mul_one] at hsample

/-- A bounded frequency over FS is finite. -/
theorem finite_div_fs {c : Config} (hc : c.legal = true) {x : F64} {k : Nat} (hx : x.AtMost k)
    (hk : k < 2 ^ 53) : (F64.div x c.fsF).finite = true := by
  have hfs := Config.fs_bounds hc
  rw [← Nat.mul_one k] at hx hk
  have hinc := hx.div (y := c.fsF) (F64.mag_ofNat_mono (by omega)) hk one_pos (by decide)
    (F64.finite_ofNat (by omega))
  exact hinc.finite ((Nat.mul_one k).symm.trans_lt hk)

/-- An oscillator whose frequency is within the bound of R162 advances to a phase in [0, 1). -/
theorem oscAdvance_phaseOk {c : Config} (hc : c.legal = true) {o : Osc} {l : F64}
    (hfreq : within (freqLimit c).neg (freqLimit c) o.freq = true) (hl : l.AtMost 384000)
    (hp : phaseOk o.phase = true) : phaseOk (o.advance c l).phase = true := by
  obtain ⟨hb, hlimit⟩ := freqLimit_bounds hc
  have hf : o.freq.AtMost 384000 := ((within_neg_iff hb).mp hfreq).trans hlimit
  exact phaseOk_adv hp (finite_div_fs hc (hf.add hl (by decide) (by decide)) (by decide))

theorem lfoAdvance_phaseOk {c : Config} (hc : c.legal = true) {l : Lfo}
    (hfreq : within c.halfFs.neg c.halfFs l.freq = true) (hp : phaseOk l.phase = true) :
    phaseOk (l.advance c).phase = true := by
  have hf : l.freq.AtMost 384000 :=
    ((within_neg_iff (Config.isBound_halfFs hc)).mp hfreq).trans (Config.halfFs_atMost hc)
  exact phaseOk_adv hp (finite_div_fs hc hf (by decide))

theorem State.PhasesInRange.of_same {s t : State} (hs : s.PhasesInRange) (h : SameVoice s t) :
    t.PhasesInRange := by
  obtain ⟨-, hosc, hsub, hlfo, -, -⟩ := h
  constructor
  · rw [hosc]
    exact hs.osc
  · rw [hsub]
    exact hs.sub
  · rw [hlfo]
    exact hs.lfo

theorem State.PhasesInRange.reset (c : Config) : (State.resetWith c).PhasesInRange where
  osc := phaseOk_zero
  sub := phaseOk_zero
  lfo := phaseOk_zero

theorem State.PhasesInRange.tick {s : State} (hc : s.cfg.legal = true) (hparams : s.ParamsInRange)
    (hfreqs : s.FreqsInRange) (hs : s.PhasesInRange) : s.tick.PhasesInRange := by
  have hl := lfoSample_atMost hc hparams.lfoLevel hs.lfo
  exact ⟨oscAdvance_phaseOk hc hfreqs.osc hl hs.osc, oscAdvance_phaseOk hc hfreqs.sub hl hs.sub,
    lfoAdvance_phaseOk hc hparams.lfoFreq hs.lfo⟩

/-- Settles O44: a command writes no phase; the increments of a tick are finite, and the phase
advance keeps [0, 1) for a finite increment. -/
theorem everyStepKeepsPhasesInUnitRange : Obligations.EveryStepKeepsPhasesInUnitRange := by
  intro s t hc hparams hfreqs hs h
  cases step_voice h with
  | write h =>
    obtain ⟨-, hosc, hsub, hlfo, -, -⟩ := h
    constructor
    · rw [hosc.phase]
      exact hs.osc
    · rw [hsub.phase]
      exact hs.sub
    · rw [hlfo.phase]
      exact hs.lfo
  | tick h => exact (hs.tick hc hparams hfreqs).of_same h
  | reset c _ h => exact (State.PhasesInRange.reset c).of_same h

/-! ### The segment lengths (R39, R191) -/

theorem EnvWrite.segmentLengthsOk {c : Config} (hc : c.legal = true) {e e' : Env}
    (h : EnvWrite c e e') (he : segmentLengthsOk c e) : segmentLengthsOk c e' := by
  have hlen := fun x => (rampLen_toNat hc x).2
  cases h with
  | params a d s r => exact he
  | trigger vel =>
    unfold Env.triggerOn
    split
    · exact ⟨hlen e.a, hlen e.d⟩
    · exact ⟨hlen e.a, he.2⟩
  | release => exact ⟨hlen e.r, he.2⟩

/-- Settles O47: a trigger and a release write ramp lengths, and each is 5 × FS at most, since
x/127 is at most 1.0 and every product is rounded monotonely. -/
theorem segmentLengthsWithinFiveSeconds : Obligations.SegmentLengthsWithinFiveSeconds := by
  refine ⟨fun c x hc => (rampLen_toNat hc x).2, fun s t hc hs h => ?_⟩
  cases step_voice h with
  | write h =>
    rw [h.cfg]
    exact h.env.segmentLengthsOk hc hs
  | tick h =>
    rw [h.cfg, h.env]
    exact hs
  | reset c _ h =>
    rw [h.cfg, h.env]
    exact ⟨Nat.zero_le _, Nat.zero_le _⟩

end Sys2Proof.Machine
end

section
/-! SUPPORT. The status window (R48, R49) and the reset numbers at FS = 48000 (R47). -/

namespace Sys2Proof.Machine

/-! ### ENV_STATUS (R49) -/

theorem EnvStage.code_lt (st : EnvStage) : st.code < 2 ^ 3 := by
  cases st <;> decide

theorem EnvMode.code_lt (m : EnvMode) : m.code < 2 ^ 2 := by
  cases m <;> decide

/-- Each field of R49, bit by bit. -/
theorem envStatus_fields (e : Env) (st : EnvStage) :
    (envStatus e st).extractLsb' 0 3 = BitVec.ofNat 3 st.code ∧
    (envStatus e st).extractLsb' 4 2 = BitVec.ofNat 2 e.mode.code ∧
    (envStatus e st).extractLsb' 6 2 = BitVec.ofNat 2 e.nseg.val ∧
    (envStatus e st).extractLsb' 8 7 = e.a ∧ (envStatus e st).extractLsb' 16 7 = e.d ∧
    (envStatus e st).extractLsb' 24 7 = e.s ∧ (envStatus e st).extractLsb' 32 7 = e.r := by
  refine ⟨?_, ?_, ?_, ?_, ?_, ?_, ?_⟩ <;>
  · apply BitVec.eq_of_getLsbD_eq
    intro i hi
    simp only [envStatus, BitVec.getLsbD_extractLsb', BitVec.getLsbD_append]
    interval_cases i <;> simp

/-- The bits between the fields and above them. -/
theorem envStatus_zero_bits (e : Env) (st : EnvStage) {i : Nat}
    (hi : i = 3 ∨ i = 15 ∨ i = 23 ∨ i = 31 ∨ 39 ≤ i) : (envStatus e st).getLsbD i = false := by
  simp only [envStatus, BitVec.getLsbD_append]
  obtain rfl | rfl | rfl | rfl | hi := hi
  · simp
  · simp
  · simp
  · simp
  · simp (disch := omega) only [if_neg, BitVec.getLsbD_zero]

/-- Settles O36: each code fits its field, and the fields do not overlap. -/
theorem envStatusFieldLayout : Obligations.EnvStatusFieldLayout := by
  intro s
  obtain ⟨hstage, hmode, hnseg, ha, hd, hs, hr⟩ :=
    envStatus_fields s.snapshot.regs.env s.snapshot.stage
  have hcode : ∀ {w n} {v : BitVec w}, v = BitVec.ofNat w n → n < 2 ^ w → v.toNat = n := by
    rintro w n _ rfl h
    rw [BitVec.toNat_ofNat, Nat.mod_eq_of_lt h]
  exact ⟨hcode hstage (EnvStage.code_lt _), hcode hmode (EnvMode.code_lt _),
    hcode hnseg (by omega), ha, hd, hs, hr, fun i hi => envStatus_zero_bits _ _ hi⟩

/-! ### The other indices (R48) -/

theorem toNat_field64 {n : Nat} (h : n < 2 ^ 64) : (field64 n).toNat = n := by
  rw [field64, if_pos h, BitVec.toNat_ofNat, Nat.mod_eq_of_lt h]

theorem toNat_field32 {n : Nat} (h : n < 2 ^ 32) : (field32 n).toNat = n := by
  rw [field32, if_pos h, BitVec.toNat_ofNat, Nat.mod_eq_of_lt h]

theorem toNat_fifoStatus {s : State} (h : s.fifo.length < 2 ^ 32) :
    s.fifoStatus.toNat = s.fifo.length + if s.ovf then 2 ^ 32 else 0 := by
  rw [State.fifoStatus, BitVec.toNat_append, toNat_field32 h,
    ← Nat.shiftLeft_add_eq_or_of_lt h, Nat.add_comm]
  cases s.ovf <;> rfl

theorem octaveStatus_fields (c : Config) :
    (octaveStatus c).extractLsb' 0 8 = BitVec.ofInt 8 c.oscOctave ∧
    (octaveStatus c).extractLsb' 8 8 = BitVec.ofInt 8 c.subOctave ∧
    (octaveStatus c).extractLsb' 16 48 = 0 := by
  refine ⟨?_, ?_, ?_⟩ <;>
  · apply BitVec.eq_of_getLsbD_eq
    intro i hi
    simp only [octaveStatus, BitVec.getLsbD_extractLsb', BitVec.getLsbD_append]
    interval_cases i <;> simp

theorem lfoKind_code (k : LfoKind) : k.code = 0 := by
  cases k
  rfl

/-- Settles O35: an index shows its register by definition; the numbers fit their fields. -/
theorem statusWindowIndexMap : Obligations.StatusWindowIndexMap := by
  intro s
  refine ⟨rfl, rfl, rfl, rfl, rfl, toNat_fifoStatus, rfl, toNat_field64, toNat_field64,
    octaveStatus_fields s.cfg, rfl, rfl, ?_, rfl, rfl, rfl, rfl⟩
  have hkind : s.statusAt 0x20 = BitVec.ofNat 64 s.snapshot.regs.lfo.kind.code := rfl
  rw [List.map_cons, hkind, lfoKind_code]
  rfl

/-! ### The reset numbers (R47) -/

/-- Settles O39: the numbers of one fixed state, evaluated. -/
theorem resetNumbersAt48000 : Obligations.ResetNumbersAt48000 := by
  unfold Obligations.ResetNumbersAt48000
  decide +kernel

end Sys2Proof.Machine
end

section
/-! SUPPORT. Words moved as bytes (R81, R85): the byte string of a number and the number of a byte
string are inverse to each other, and each byte is a field of the word. -/

namespace Sys2Proof

/-! ### Byte strings, most significant byte first -/

/-- The last byte is the least significant one. -/
theorem bytesOfNat_succ (n v : Nat) :
    bytesOfNat (n + 1) v = bytesOfNat n (v / 256) ++ [BitVec.ofNat 8 v] := by
  have hinit : ∀ i ∈ List.range n,
      BitVec.ofNat 8 (v / 256 ^ (n - i)) = BitVec.ofNat 8 (v / 256 / 256 ^ (n - 1 - i)) := by
    intro i hi
    have hexp : n - i = n - 1 - i + 1 := by
      have := List.mem_range.mp hi
      omega
    rw [hexp, pow_succ', Nat.div_div_eq_div_mul]
  simp only [bytesOfNat, List.range_succ, List.map_append, Nat.add_sub_cancel,
    List.map_congr_left hinit, List.map_singleton, Nat.sub_self, pow_zero, Nat.div_one]

@[simp] theorem length_bytesOfNat (n v : Nat) : (bytesOfNat n v).length = n := by
  rw [bytesOfNat, List.length_map, List.length_range]

theorem natOfBytes_concat (bs : List Byte) (b : Byte) :
    natOfBytes (bs ++ [b]) = natOfBytes bs * 256 + b.toNat := by
  rw [natOfBytes, List.foldl_concat, natOfBytes]

theorem natOfBytes_lt (bs : List Byte) : natOfBytes bs < 256 ^ bs.length := by
  induction bs using List.reverseRecOn with
  | nil => exact Nat.one_pos
  | append_singleton bs b ih =>
    rw [natOfBytes_concat, List.length_append, List.length_singleton, pow_succ]
    have hb : b.toNat < 256 := b.isLt
    omega

theorem natOfBytes_bytesOfNat (n v : Nat) : natOfBytes (bytesOfNat n v) = v % 256 ^ n := by
  induction n generalizing v with
  | zero => exact (Nat.mod_one v).symm
  | succ n ih =>
    rw [bytesOfNat_succ, natOfBytes_concat, ih, BitVec.toNat_ofNat, pow_succ' 256 n, Nat.mod_mul]
    omega

theorem bytesOfNat_natOfBytes (bs : List Byte) : bytesOfNat bs.length (natOfBytes bs) = bs := by
  induction bs using List.reverseRecOn with
  | nil => rfl
  | append_singleton bs b ih =>
    have hb : b.toNat < 256 := b.isLt
    have hinit : (natOfBytes bs * 256 + b.toNat) / 256 = natOfBytes bs := by omega
    have hlast : BitVec.ofNat 8 (natOfBytes bs * 256 + b.toNat) = b := by
      apply BitVec.eq_of_toNat_eq
      rw [BitVec.toNat_ofNat]
      omega
    rw [List.length_append, List.length_singleton, bytesOfNat_succ, natOfBytes_concat, hinit, ih,
      hlast]

/-- Byte `i` of the `n` bytes of a word is its field of eight bits from `8 (n - 1) - 8 i` (R85). -/
theorem bytesOfNat_toNat {m : Nat} (n : Nat) (w : BitVec m) :
    bytesOfNat n w.toNat = (List.range n).map fun i => w.extractLsb' (8 * (n - 1) - 8 * i) 8 := by
  refine List.map_congr_left fun i _ => ?_
  rw [BitVec.extractLsb', Nat.shiftRight_eq_div_pow, ← Nat.mul_sub, pow_mul]
  rfl

/-! ### Command words and status registers (R81, R85) -/

theorem bytesOfWord_eq_map (w : CommandWord) :
    bytesOfWord w = (List.range 16).map fun i => w.extractLsb' (120 - 8 * i) 8 :=
  bytesOfNat_toNat 16 w

theorem bytesOfStatus_eq_map (v : BitVec 64) :
    bytesOfStatus v = (List.range 8).map fun i => v.extractLsb' (56 - 8 * i) 8 :=
  bytesOfNat_toNat 8 v

@[simp] theorem wordOfBytes_bytesOfWord (w : CommandWord) :
    wordOfBytes (bytesOfWord w) = .ok w := by
  have hlen : (bytesOfWord w).length = 16 := length_bytesOfNat 16 w.toNat
  have hval : natOfBytes (bytesOfWord w) = w.toNat % 2 ^ 128 := natOfBytes_bytesOfNat 16 w.toNat
  rw [wordOfBytes, if_pos hlen, hval, Nat.mod_eq_of_lt w.isLt, BitVec.ofNat_toNat,
    BitVec.setWidth_eq]

/-- Every sixteen bytes are the bytes of a word. -/
theorem exists_bytesOfWord_eq {bs : List Byte} (h : bs.length = 16) : ∃ w, bytesOfWord w = bs := by
  refine ⟨BitVec.ofNat 128 (natOfBytes bs), ?_⟩
  have hlt : natOfBytes bs < 2 ^ 128 := by
    have := natOfBytes_lt bs
    rwa [h] at this
  rw [bytesOfWord, BitVec.toNat_ofNat, Nat.mod_eq_of_lt hlt, ← h, bytesOfNat_natOfBytes]

theorem wordOfBytes_of_length_ne {bs : List Byte} (h : bs.length ≠ 16) :
    wordOfBytes bs = .error (.notOneWord bs.length) :=
  if_neg h

/-- Settles O7: the bytes are the word's fields of eight bits, and reading them back is the inverse. -/
theorem wordsMoveBigEndian : Obligations.WordsMoveBigEndian := by
  refine ⟨fun w i hi => ?_, fun v i hi => ?_, wordOfBytes_bytesOfWord, fun bs hbs => ?_⟩
  · rw [bytesOfWord_eq_map, List.getElem?_map, List.getElem?_range hi, Option.map_some]
  · rw [bytesOfStatus_eq_map, List.getElem?_map, List.getElem?_range hi, Option.map_some]
  · rw [decodeBytes, wordOfBytes_of_length_ne hbs]

end Sys2Proof
end

section
/-! SUPPORT. What each act of the host that pushes or reads does, and each step of the engine at its
place in the block (R82 to R87, R264). -/

namespace Sys2Proof.Machine

/-! ### Pushes (R81 to R83) -/

theorem State.pushWord_room {s : State} (h : s.fifo.length < s.cfg.fifoDepth) (w : CommandWord) :
    s.pushWord w = { s with fifo := s.fifo ++ [w] } := by
  have hovf : ovfAfterPush s = s.ovf := by
    rw [ovfAfterPush, decide_eq_false (Nat.not_le.mpr h), Bool.or_false]
  rw [State.pushWord, fifoAfterPush, if_pos h, hovf]
  rfl

theorem State.pushWord_full {s : State} (h : s.cfg.fifoDepth ≤ s.fifo.length) (w : CommandWord) :
    s.pushWord w = { s with ovf := true } := by
  have hovf : ovfAfterPush s = true := by
    rw [ovfAfterPush, decide_eq_true h, Bool.or_true]
  rw [State.pushWord, fifoAfterPush, if_neg (Nat.not_lt.mpr h), hovf]
  rfl

section
variable {s : State} {rest : List HostAction}

theorem step_push {w : CommandWord} (h : s.outside.script = .push w :: rest) :
    step s = .next ((s.setScript rest).pushWord w) :=
  machineStep_script h

theorem step_pushBytes {bs : List Byte} (h : s.outside.script = .pushBytes bs :: rest)
    {w : CommandWord} (hw : wordOfBytes bs = .ok w) :
    step s = .next ((s.setScript rest).pushWord w) := by
  rw [step, machineStep_script h, hostStep, hw]

theorem step_pushBytes_partial {bs : List Byte} (h : s.outside.script = .pushBytes bs :: rest)
    (hbs : bs.length ≠ 16) : step s = .refused (.partialWord bs.length) := by
  rw [step, machineStep_script h, hostStep, wordOfBytes_of_length_ne hbs]

/-- The sixteen bytes of a word push the word. -/
theorem step_pushBytes_bytesOfWord {w : CommandWord}
    (h : s.outside.script = .pushBytes (bytesOfWord w) :: rest) :
    step s = step { s with outside := { s.outside with script := .push w :: rest } } := by
  rw [step_pushBytes h (wordOfBytes_bytesOfWord w), step_push (w := w) (rest := rest) rfl]
  rfl

end

/-- Settles O60: sixteen bytes are the bytes of one word, and any other number is no word. -/
theorem byteActsMoveWholeWords : Obligations.ByteActsMoveWholeWords := by
  refine ⟨fun s w rest h => step_pushBytes_bytesOfWord h,
    fun s bs rest h => ⟨fun hbs => ?_, step_pushBytes_partial h⟩⟩
  obtain ⟨w, rfl⟩ := exists_bytesOfWord_eq hbs
  exact ⟨w, rfl, step_pushBytes_bytesOfWord h⟩

/-- Settles O32: a push with room and a push without. -/
theorem pushAppendsOrDrops : Obligations.PushAppendsOrDrops := by
  refine fun s w rest h => ⟨fun hroom => ?_, fun hfull => ?_⟩
  · rw [step_push h, State.pushWord_room (s := s.setScript rest) hroom]
    rfl
  · rw [step_push h, State.pushWord_full (s := s.setScript rest) (Nat.le_of_eq hfull.symm)]
    rfl

/-! ### Status reads (R48, R85, R86) -/

theorem State.statusRead_le {i : Nat} (h : i ≤ 0x3F) (s : State) :
    s.statusRead i = some (s.statusAt i) :=
  if_pos h

theorem State.statusRead_gt {i : Nat} (h : 0x3F < i) (s : State) : s.statusRead i = none :=
  if_neg (Nat.not_le.mpr h)

section
variable {s : State} {i : Nat} {rest : List HostAction}

theorem step_readStatus (h : s.outside.script = .readStatus i :: rest) (hi : i ≤ 0x3F) :
    step s = .next ((s.setScript rest).recordRead (s.statusAt i)) := by
  rw [step, machineStep_script h, hostStep, State.statusRead_le hi]

theorem step_readStatus_above (h : s.outside.script = .readStatus i :: rest) (hi : 0x3F < i) :
    step s = .refused (.statusIndexAbove3F i) := by
  rw [step, machineStep_script h, hostStep, State.statusRead_gt hi]

theorem step_readStatusBytes (h : s.outside.script = .readStatusBytes i :: rest)
    (hi : i ≤ 0x3F) :
    step s = .next ((s.setScript rest).recordReadBytes (s.statusAt i)) := by
  rw [step, machineStep_script h, hostStep, State.statusRead_le hi]

theorem step_readStatusBytes_above (h : s.outside.script = .readStatusBytes i :: rest)
    (hi : 0x3F < i) : step s = .refused (.statusIndexAbove3F i) := by
  rw [step, machineStep_script h, hostStep, State.statusRead_gt hi]

end

/-- The indices that the map of R48 does not name read 0 (R86). -/
theorem State.statusAt_unnamed (s : State) {i : Nat}
    (h : i ∈ [0x0B, 0x0C, 0x0D, 0x0E, 0x0F, 0x14, 0x15, 0x16, 0x17, 0x1C, 0x1D, 0x1E, 0x1F,
      0x24, 0x25, 0x26, 0x27, 0x34, 0x35, 0x36, 0x37, 0x3F]) : s.statusAt i = 0 := by
  fin_cases h <;> rfl

/-- Settles O34: a read records the register and writes nothing else, its bytes are its fields of
eight bits, and there is no index above 0x3F. -/
theorem statusReadsHaveNoSideEffect : Obligations.StatusReadsHaveNoSideEffect := by
  refine ⟨fun s i rest h => ⟨step_readStatus h, step_readStatus_above h⟩,
    fun s i rest h => ⟨fun hi => ?_, step_readStatusBytes_above h⟩, fun s i => s.statusAt_unnamed⟩
  rw [step_readStatusBytes h hi, State.recordReadBytes, bytesOfStatus_eq_map]
  rfl

/-! ### The status window between two snapshots (R87, R90) -/

theorem State.statusLow_congr {s t : State} (hsnap : t.snapshot = s.snapshot)
    (hcfg : t.cfg = s.cfg) {i : Nat} (hi : i ≠ 0x06) : t.statusLow i = s.statusLow i := by
  unfold State.statusLow
  rw [hsnap, hcfg]
  split
  case h_7 => exact absurd rfl hi
  all_goals rfl

/-- Every index but FIFO_STATUS shows the snapshot or the configuration (R48). -/
theorem State.statusAt_congr {s t : State} (hsnap : t.snapshot = s.snapshot)
    (hcfg : t.cfg = s.cfg) {i : Nat} (hi : i ≠ 0x06) : t.statusAt i = s.statusAt i := by
  rw [State.statusAt, State.statusLow_congr hsnap hcfg hi, hsnap, State.statusAt]

theorem CommandWrite.snapshot {s t : State} (h : CommandWrite s t) : t.snapshot = s.snapshot := by
  rw [h.frame]

/-- Only the publishing step of the engine writes the snapshot, and none writes the configuration. -/
theorem engineStep_keeps_window {s t : State} (h : engineStep s = .next t)
    (hseq : s.seq ≠ .ticking 0) : t.snapshot = s.snapshot ∧ t.cfg = s.cfg := by
  obtain ⟨-, h'⟩ | ⟨-, h'⟩ | ⟨w, ws, -, h'⟩ | ⟨hpublish, -⟩ | ⟨n, -, h'⟩ := engineStep_cases s
  · rw [next_inj (h'.symm.trans h)]
    exact ⟨State.takeBatch_snapshot s, State.takeBatch_cfg s⟩
  · rw [next_inj (h'.symm.trans h)]
    exact ⟨rfl, rfl⟩
  · have hw := exec_next (h'.symm.trans h)
    exact ⟨hw.snapshot, hw.cfg⟩
  · exact absurd hpublish hseq
  · rw [next_inj (h'.symm.trans h)]
    exact ⟨State.tick_snapshot s, State.tick_cfg s⟩

/-- Settles O37: such a step and a push keep the snapshot and the configuration. -/
theorem snapshotHoldsBetweenBoundaries : Obligations.SnapshotHoldsBetweenBoundaries := by
  refine ⟨fun s t h hseq i hi => ?_, fun s w i hi => ?_⟩
  · obtain ⟨hsnap, hcfg⟩ := engineStep_keeps_window h hseq
    exact State.statusAt_congr hsnap hcfg hi
  · exact State.statusAt_congr (s.pushWord_snapshot w) (s.pushWord_cfg w) hi

/-! ### The engine at each place in the block (R264) -/

theorem engineStep_boundary {s : State} (h : s.seq = .boundary) :
    engineStep s = .next s.takeBatch := by
  rw [engineStep, h]

theorem engineStep_batchEnd {s : State} (h : s.seq = .applying []) :
    engineStep s = .next (s.setSeq (.ticking s.cfg.block)) := by
  rw [engineStep, h]

theorem engineStep_tick {s : State} {n : Nat} (h : s.seq = .ticking (n + 1)) :
    engineStep s = .next (s.tick.setSeq (.ticking n)) := by
  rw [engineStep, h]

theorem engineStep_publish {s : State} (h : s.seq = .ticking 0) :
    engineStep s = .next s.publish := by
  rw [engineStep, h]

/-- Settles O27: with no act pending, and with the act `elapse`, a step is the engine's. -/
theorem boundaryTakesWholeFifo : Obligations.BoundaryTakesWholeFifo := by
  refine ⟨fun s h => ?_, fun s rest h => machineStep_script h⟩
  have hstep : step s = engineStep s := machineStep_no_script h
  rw [hstep]
  exact ⟨engineStep_boundary, engineStep_batchEnd, fun _ => engineStep_tick, engineStep_publish⟩

end Sys2Proof.Machine
end

section
/-! SUPPORT. The decoder (R111 to R121): what it gives for each KIND, what each of the two
dispatches can give, and the fields it reads. -/

namespace Sys2Proof

open Machine (recognisedPairs paramCommands)

/-! ### The decoder for each KIND (R111) -/

section
variable {w : CommandWord}

theorem decode_kind_zero (h : fieldKind w = 0) : decode w = .nop := if_pos h

theorem decode_kind_one (h : fieldKind w = 1) :
    decode w = decodeMidi (fieldLen w) (fieldB0 w) (fieldB1 w) (fieldB2 w) := by
  rw [decode, h]
  rfl

theorem decode_kind_two (h : fieldKind w = 2) :
    decode w = decodeParam (fieldDest w) (fieldParam w) (fieldValue w) := by
  rw [decode, h]
  rfl

theorem decode_kind_reserved (h : 3 ≤ (fieldKind w).toNat) : decode w = .reservedKind := by
  have hne : ∀ k : BitVec 4, k.toNat < 3 → fieldKind w ≠ k := by
    rintro k hk rfl
    omega
  rw [decode, if_neg (hne _ (by decide)), if_neg (hne _ (by decide)), if_neg (hne _ (by decide))]

end

theorem kind_cases (k : BitVec 4) : k = 0 ∨ k = 1 ∨ k = 2 ∨ 3 ≤ k.toNat := by
  decide +revert

/-! ### Words of the encoder (R112 to R114) -/

@[simp] theorem decode_midiWord (len : BitVec 4) (b0 b1 b2 : Byte) :
    decode (midiWord len b0 b1 b2) = decodeMidi len b0 b1 b2 := by
  rw [decode_kind_one (midiWord_kind len b0 b1 b2), midiWord_len, midiWord_b0, midiWord_b1,
    midiWord_b2]

@[simp] theorem decode_paramWord (dest : BitVec 4) (par : BitVec 8) (v : F64) :
    decode (paramWord dest par v) = decodeParam dest par v := by
  rw [decode_kind_two (paramWord_kind dest par v), paramWord_dest, paramWord_param, paramWord_value]

/-! ### The MIDI dispatch (R120, R290) -/

theorem decodeMidi_eq_ite (len : BitVec 4) (b0 b1 b2 : Byte) :
    decodeMidi len b0 b1 b2 =
      if b0 = 0xFE#8 then .midiActiveSensing
      else if len ≠ 3#4 then .midiBadLength
      else if b0 = 0x90#8 then (if b2 = 0#8 then .midiNoteOnVel0 b1 else .midiNoteOn b1 b2)
      else if b0 = 0x80#8 then .midiNoteOff b1 b2
      else .midiOther := by
  by_cases hstatus : b0 = 0x90#8 <;> by_cases hvel : b2 = 0#8 <;> simp [decodeMidi, hstatus, hvel]

theorem decodeMidi_noteOn {b2 : Byte} (h : b2 ≠ 0) (b1 : Byte) :
    decodeMidi 3 0x90 b1 b2 = .midiNoteOn b1 b2 := by
  rw [decodeMidi_eq_ite]
  exact if_neg h

theorem decodeMidi_formatKind (len : BitVec 4) (b0 b1 b2 : Byte) :
    (decodeMidi len b0 b1 b2).formatKind = 1 := by
  fun_cases decodeMidi <;> rfl

theorem decodeMidi_wellFormed (len : BitVec 4) (b0 b1 b2 : Byte) :
    (decodeMidi len b0 b1 b2).wellFormed = true := by
  fun_cases decodeMidi
  case case3 hnoteOn => exact bne_iff_ne.mpr hnoteOn.2
  all_goals rfl

/-! ### The PARAM dispatch (R117, R121) -/

theorem decodeParam_formatKind (dest : BitVec 4) (par : BitVec 8) (v : F64) :
    (decodeParam dest par v).formatKind = 2 := by
  fun_cases decodeParam <;> rfl

theorem decodeParam_wellFormed (dest : BitVec 4) (par : BitVec 8) (v : F64) :
    (decodeParam dest par v).wellFormed = true := by
  fun_cases decodeParam <;> rfl

theorem decodeParam_of_four_lt {dest : BitVec 4} (h : 4 < dest.toNat) (par : BitVec 8) (v : F64) :
    decodeParam dest par v = .paramUnknownDest :=
  if_pos h

theorem decodeParam_of_mem {p : BitVec 4 × BitVec 8} (h : p ∈ recognisedPairs) (v : F64) :
    decodeParam p.1 p.2 v ∈ paramCommands v := by
  fin_cases h <;> simp [decodeParam, paramCommands]

theorem decodeParam_of_not_mem {p : BitVec 4 × BitVec 8} (hdest : p.1.toNat ≤ 4)
    (h : p ∉ recognisedPairs) (v : F64) : decodeParam p.1 p.2 v = .paramUnknownParam := by
  have hcodes : ∀ q ∈ recognisedPairs, p.1.toNat = q.1.toNat → p.2.toNat ≠ q.2.toNat :=
    fun q hq h1 h2 => h (Prod.ext (BitVec.eq_of_toNat_eq h1) (BitVec.eq_of_toNat_eq h2) ▸ hq)
  rw [decodeParam, if_neg (Nat.not_lt.mpr hdest)]
  split
  case h_16 => rfl
  all_goals simp_all [recognisedPairs]

theorem decodeParam_eq_unknownDest_iff {p : BitVec 4 × BitVec 8} {v : F64} :
    decodeParam p.1 p.2 v = .paramUnknownDest ↔ 4 < p.1.toNat := by
  refine ⟨fun h => ?_, fun h => decodeParam_of_four_lt h _ _⟩
  by_contra hdest
  by_cases hp : p ∈ recognisedPairs
  · simpa [h, paramCommands] using decodeParam_of_mem hp v
  · simpa [h] using decodeParam_of_not_mem (Nat.not_lt.mp hdest) hp v

theorem decodeParam_eq_unknownParam_iff {p : BitVec 4 × BitVec 8} {v : F64} :
    decodeParam p.1 p.2 v = .paramUnknownParam ↔ p.1.toNat ≤ 4 ∧ p ∉ recognisedPairs := by
  refine ⟨fun h => ⟨?_, fun hp => ?_⟩, fun h => decodeParam_of_not_mem h.1 h.2 v⟩
  · by_contra hdest
    simpa [h] using decodeParam_of_four_lt (Nat.not_le.mp hdest) p.2 v
  · simpa [h, paramCommands] using decodeParam_of_mem hp v

/-! ### All words -/

/-- A word decodes to a command of the format that its KIND names (R111). -/
theorem formatKind_decode (w : CommandWord) :
    (decode w).formatKind.toNat = min (fieldKind w).toNat 3 := by
  obtain h | h | h | h := kind_cases (fieldKind w)
  · rw [decode_kind_zero h, h]
    rfl
  · rw [decode_kind_one h, decodeMidi_formatKind, h]
    rfl
  · rw [decode_kind_two h, decodeParam_formatKind, h]
    rfl
  · rw [decode_kind_reserved h, Nat.min_eq_right h]
    rfl

theorem decode_eq_nop_iff {w : CommandWord} : decode w = .nop ↔ fieldKind w = 0 := by
  refine ⟨fun h => ?_, decode_kind_zero⟩
  have hkind : 0 = min (fieldKind w).toNat 3 := by rw [← formatKind_decode, h]; rfl
  have hzero : (fieldKind w).toNat = 0 := by omega
  exact BitVec.eq_of_toNat_eq hzero

theorem decode_eq_reservedKind_iff {w : CommandWord} :
    decode w = .reservedKind ↔ 3 ≤ (fieldKind w).toNat := by
  refine ⟨fun h => ?_, decode_kind_reserved⟩
  have hkind : 3 = min (fieldKind w).toNat 3 := by rw [← formatKind_decode, h]; rfl
  omega

/-- A field inside a part on which two words agree (R110). -/
theorem extractLsb'_congr {n s m : Nat} {w v : BitVec n} (h : w.extractLsb' s m = v.extractLsb' s m)
    (k l : Nat) (hkl : k + l ≤ m) : w.extractLsb' (s + k) l = v.extractLsb' (s + k) l := by
  ext i hi
  have hbit := congrArg (·.getLsbD (k + i)) h
  have hki : k + i < m := by omega
  simpa [BitVec.getLsbD_extractLsb', hki, Nat.add_assoc] using hbit

/-- Settles O1: the fields of a built word are the ones it was built from, and each row of the two
dispatches gives the command back; a note-on needs its velocity byte nonzero. -/
theorem decodeOfEncodeIsIdentity : Obligations.DecodeOfEncodeIsIdentity := by
  intro i hi
  cases i
  case midiNoteOn b1 b2 =>
    have hb2 : b2 ≠ 0 := bne_iff_ne.mp hi
    exact (decode_midiWord _ _ _ _).trans (decodeMidi_noteOn hb2 b1)
  case nop | reservedKind => rfl
  case midiActiveSensing | midiBadLength | midiNoteOnVel0 | midiNoteOff | midiOther =>
    exact decode_midiWord _ _ _ _
  all_goals exact decode_paramWord _ _ _

/-- Settles O2: by the KIND of the word; a note-on comes from the row that asks for B2 nonzero. -/
theorem decodedCommandsAreWellFormed : Obligations.DecodedCommandsAreWellFormed := by
  intro w
  obtain h | h | h | h := kind_cases (fieldKind w)
  · rw [decode_kind_zero h]
    rfl
  · rw [decode_kind_one h]
    exact decodeMidi_wellFormed _ _ _ _
  · rw [decode_kind_two h]
    exact decodeParam_wellFormed _ _ _
  · rw [decode_kind_reserved h]
    rfl

/-- Settles O3: every field that the dispatch of a KIND reads lies in the bits that agree. -/
theorem decoderReadsOnlyNamedFields : Obligations.DecoderReadsOnlyNamedFields := by
  intro w v (hkind : fieldKind w = fieldKind v) hmidi hparam
  obtain h | h | h | h := kind_cases (fieldKind w)
  · rw [decode_kind_zero h, decode_kind_zero (hkind ▸ h)]
  · have hbits := hmidi h
    have hlen : fieldLen w = fieldLen v := extractLsb'_congr hbits 24 4 (by decide)
    have hb0 : fieldB0 w = fieldB0 v := extractLsb'_congr hbits 16 8 (by decide)
    have hb1 : fieldB1 w = fieldB1 v := extractLsb'_congr hbits 8 8 (by decide)
    have hb2 : fieldB2 w = fieldB2 v := extractLsb'_congr hbits 0 8 (by decide)
    rw [decode_kind_one h, decode_kind_one (hkind ▸ h), hlen, hb0, hb1, hb2]
  · obtain ⟨hbits, hvalue⟩ := hparam h
    have hdest : fieldDest w = fieldDest v := extractLsb'_congr hbits 8 4 (by decide)
    have hpar : fieldParam w = fieldParam v := extractLsb'_congr hbits 0 8 (by decide)
    have hval : fieldValue w = fieldValue v := congrArg F64.mk hvalue
    rw [decode_kind_two h, decode_kind_two (hkind ▸ h), hdest, hpar, hval]
  · rw [decode_kind_reserved h, decode_kind_reserved (hkind ▸ h)]

/-- Settles O4: the rows of the MIDI dispatch. -/
theorem midiDispatchTable : Obligations.MidiDispatchTable := by
  intro w h
  exact (decode_kind_one h).trans (decodeMidi_eq_ite _ _ _ _)

/-- Settles O5: the KIND by the format of the decoded command, the pair by the PARAM dispatch. -/
theorem unrecognisedParamWords : Obligations.UnrecognisedParamWords := by
  refine fun w => ⟨decode_eq_nop_iff, decode_eq_reservedKind_iff, fun h => ?_⟩
  rw [decode_kind_two h]
  exact ⟨decodeParam_eq_unknownDest_iff (p := (fieldDest w, fieldParam w)),
    decodeParam_eq_unknownParam_iff (p := (fieldDest w, fieldParam w))⟩

/-- Settles O6: the eighteen fixed lines and words, evaluated. -/
theorem encodingExamples : Obligations.EncodingExamples := by
  unfold Obligations.EncodingExamples
  exact ⟨by decide +kernel, by decide⟩

/-- Settles O8: each of the seven meanings is `ignore`. -/
theorem ignoredCommandsChangeNothing : Obligations.IgnoredCommandsChangeNothing :=
  fun _ => ⟨rfl, rfl, rfl, rfl, rfl, rfl, rfl⟩

end Sys2Proof
end

section
/-! SUPPORT. Note frequencies (R150, R151) and the bound of the base frequencies (R162): pow2 grows with
its argument up to one at which its enclosure decides, so no note is above note 127. -/

namespace Sys2Proof

open Machine (within freqLimit)

/-! ### pow2 grows (R11) -/

/-- The lower bound of the exponential series grows with the lower bound of its argument. -/
theorem growing_fst_mono {ylo ylo' : Nat} (h : ylo ≤ ylo') (yhi yhi' : Nat) :
    ∀ fuel k, (growing ylo yhi fuel k).1 ≤ (growing ylo' yhi' fuel k).1
  | 0, _ => le_rfl
  | fuel + 1, k =>
    Nat.add_le_add_left (Nat.div_le_div_right
      (Nat.mul_le_mul h (growing_fst_mono h yhi yhi' fuel (k + 1)))) _

/-- Its upper bound grows with the upper bound of the argument. -/
theorem growing_snd_mono {yhi yhi' : Nat} (h : yhi ≤ yhi') (ylo ylo' : Nat) :
    ∀ fuel k, (growing ylo yhi fuel k).2 ≤ (growing ylo' yhi' fuel k).2
  | 0, _ => le_rfl
  | fuel + 1, k =>
    Nat.add_le_add_left (Nat.add_le_add_right (Nat.div_le_div_right
      (Nat.mul_le_mul h (growing_snd_mono h ylo ylo' fuel (k + 1)))) _) _

theorem fixOne_le_growing (ylo yhi fuel k : Nat) :
    fixOne ≤ (growing ylo yhi fuel k).1 ∧ fixOne ≤ (growing ylo yhi fuel k).2 := by
  cases fuel with
  | zero => exact ⟨le_rfl, Nat.le_mul_of_pos_left _ two_pos⟩
  | succ fuel => exact ⟨Nat.le_add_right _ _, Nat.le_add_right _ _⟩

/-- At the logarithm of 2 the lower bound of the series is at most 2. -/
theorem growing_ln2Fix_le : (growing ln2Fix 0 expTerms 1).1 ≤ 2 * fixOne := by decide +kernel

/-- The enclosure of 2^f lies in [1, 2] for f at most 1.0. -/
theorem powFraction_range {f : Nat} (hf : f ≤ F64.one1074) :
    (fixOne ≤ (powFraction f).1 ∧ fixOne ≤ (powFraction f).2) ∧
      (powFraction f).1 ≤ 2 * fixOne ∧ (powFraction f).2 ≤ 2 * fixOne := by
  have htwo : fixOne ≤ 2 * fixOne := Nat.le_mul_of_pos_left _ two_pos
  unfold powFraction
  split
  · exact ⟨⟨le_rfl, le_rfl⟩, htwo, htwo⟩
  · have hlog : ln2Fix * f / F64.one1074 ≤ ln2Fix :=
      (Nat.div_le_div_right (Nat.mul_le_mul_left _ hf)).trans_eq
        (Nat.mul_div_cancel _ F64.one1074_pos)
    obtain ⟨hlo, hhi⟩ := fixOne_le_growing (ln2Fix * f / F64.one1074)
      ((ln2Fix + 1) * f / F64.one1074 + 1) expTerms 1
    refine ⟨⟨hlo, Nat.le_min.mpr ⟨hhi, htwo⟩⟩, ?_, Nat.min_le_right _ _⟩
    exact (growing_fst_mono hlog _ 0 expTerms 1).trans growing_ln2Fix_le

theorem powFraction_mono {f g : Nat} (hfg : f ≤ g) (hg : g ≤ F64.one1074) :
    (powFraction f).1 ≤ (powFraction g).1 ∧ (powFraction f).2 ≤ (powFraction g).2 := by
  rcases Nat.eq_zero_or_pos f with rfl | hf
  · exact (powFraction_range hg).1
  · rw [powFraction, powFraction, if_neg hf.ne', if_neg (hf.trans_le hfg).ne']
    have hlog : ∀ c, c * f / F64.one1074 ≤ c * g / F64.one1074 := fun c =>
      Nat.div_le_div_right (Nat.mul_le_mul_left c hfg)
    exact ⟨growing_fst_mono (hlog ln2Fix) _ _ _ _, min_le_min_right _
      (growing_snd_mono (Nat.add_le_add_right (hlog (ln2Fix + 1)) 1) _ _ _ _)⟩

/-- Both ends of the enclosure of 2^(n + f) grow with n, and with f where n stays. -/
theorem powEnclosure_mono {m n : Int} {f g : Nat} (h : m < n ∨ m = n ∧ f ≤ g)
    (hm : -1075 ≤ m) (hf : f ≤ F64.one1074) (hg : g ≤ F64.one1074) :
    (powEnclosure m f).lo ≤ (powEnclosure n g).lo ∧
      (powEnclosure m f).hi ≤ (powEnclosure n g).hi := by
  unfold powEnclosure
  obtain hlt | ⟨rfl, hfg⟩ := h
  · obtain ⟨-, hlo, hhi⟩ := powFraction_range hf
    obtain ⟨⟨hlo', hhi'⟩, -⟩ := powFraction_range hg
    have hpow : 2 * 2 ^ (m + 1075).toNat ≤ 2 ^ (n + 1075).toNat := by
      rw [← Nat.pow_succ']
      exact Nat.pow_le_pow_right two_pos (by omega)
    have hstep : ∀ {a b}, a ≤ 2 * fixOne → fixOne ≤ b →
        a * 2 ^ (m + 1075).toNat ≤ b * 2 ^ (n + 1075).toNat := fun {a b} ha hb =>
      calc a * 2 ^ (m + 1075).toNat ≤ 2 * fixOne * 2 ^ (m + 1075).toNat :=
            Nat.mul_le_mul_right _ ha
        _ = fixOne * (2 * 2 ^ (m + 1075).toNat) := by ring
        _ ≤ b * 2 ^ (n + 1075).toNat := Nat.mul_le_mul hb hpow
    exact ⟨hstep hlo hlo', hstep hhi hhi'⟩
  · obtain ⟨hlo, hhi⟩ := powFraction_mono hfg hg
    exact ⟨Nat.mul_le_mul_right _ hlo, Nat.mul_le_mul_right _ hhi⟩

/-- A rounded enclosure is one of its ends, rounded. -/
theorem Enclosure.round_cases (e : Enclosure) (fn : NumFn) (x : F64) :
    e.round fn x = F64.roundMag e.lo e.den ∨ e.round fn x = F64.roundMag e.hi e.den := by
  unfold Enclosure.round
  split
  · exact .inl rfl
  · exact (ite_eq_or_eq _ _ _).symm

/-- The enclosure decides the rounding: both ends round to one value. -/
def Enclosure.Decides (e : Enclosure) : Prop :=
  F64.roundMag e.lo e.den = F64.roundMag e.hi e.den

/-- Where an enclosure decides, one with no larger ends over the same denominator rounds to no
larger value, whatever its free choice is. -/
theorem Enclosure.Decides.round_mono {d e : Enclosure} (he : e.Decides) (hlo : d.lo ≤ e.lo)
    (hhi : d.hi ≤ e.hi) (hden : d.den = e.den) (hpos : 0 < e.den) (fn : NumFn) (x y : F64) :
    d.round fn x ≤ e.round fn y := by
  unfold Enclosure.Decides at he
  have hmono : ∀ {a b}, a ≤ b → F64.roundMag a e.den ≤ F64.roundMag b e.den := fun h =>
    F64.roundMag_mono hpos hpos (Nat.mul_le_mul_right _ h)
  have hy : e.round fn y = F64.roundMag e.lo e.den := by rw [Enclosure.round, if_pos he]
  rw [hy]
  obtain h | h := d.round_cases fn x <;> rw [h, hden]
  · exact hmono hlo
  · exact (hmono hhi).trans_eq he.symm

theorem F64.one1074_cast_pos : (0 : Int) < F64.one1074 := Int.natCast_pos.mpr F64.one1074_pos

/-- The whole part of the exponent. -/
def powWhole (x : F64) : Int := x.signedUnits / (F64.one1074 : Int)

/-- The units of the fraction of the exponent. -/
def powRest (x : F64) : Nat := (x.signedUnits % (F64.one1074 : Int)).toNat

/-- The whole part is one that `pow2` rounds an enclosure for. -/
def InPow2Range (x : F64) : Prop := -1075 ≤ powWhole x ∧ powWhole x ≤ 1023

theorem pow2_of_range {x : F64} (hx : x.finite = true) (hr : InPow2Range x) :
    pow2 x = F64.ofMag false ((powEnclosure (powWhole x) (powRest x)).round .pow2 x) := by
  rw [pow2, if_pos hx]
  exact (if_neg (not_lt.mpr hr.2)).trans (if_neg (not_lt.mpr hr.1))

theorem powRest_le (x : F64) : powRest x ≤ F64.one1074 := by
  have := Int.emod_lt_of_pos x.signedUnits F64.one1074_cast_pos
  unfold powRest
  omega

/-- A smaller exponent has a smaller whole part, or the same and no larger fraction. -/
theorem powWhole_lt_or {x y : F64} (h : x.signedUnits ≤ y.signedUnits) :
    powWhole x < powWhole y ∨ powWhole x = powWhole y ∧ powRest x ≤ powRest y := by
  have hone := F64.one1074_cast_pos
  have hx := Int.mul_ediv_add_emod x.signedUnits F64.one1074
  have hy := Int.mul_ediv_add_emod y.signedUnits F64.one1074
  unfold powWhole powRest
  refine (Int.ediv_le_ediv hone h).lt_or_eq.imp_right fun heq => ⟨heq, ?_⟩
  rw [heq] at hx
  omega

theorem powEnclosure_den (n : Int) (f : Nat) : (powEnclosure n f).den = 2 * fixOne := rfl

/-- Where the enclosure of 2^y decides the rounding, no smaller exponent has a larger power. -/
theorem pow2_mag_le {x y : F64} (hx : x.finite = true) (hy : y.finite = true)
    (hxr : InPow2Range x) (hyr : InPow2Range y) (hxy : x.signedUnits ≤ y.signedUnits)
    (hdec : (powEnclosure (powWhole y) (powRest y)).Decides) :
    (pow2 x).mag ≤ (pow2 y).mag := by
  have hmag : ∀ (e : Enclosure) z, (F64.ofMag false (e.round .pow2 z)).mag = e.round .pow2 z := by
    intro e z
    obtain h | h := e.round_cases .pow2 z <;> rw [h, F64.mag_ofMag_roundMag]
  obtain ⟨hlo, hhi⟩ := powEnclosure_mono (powWhole_lt_or hxy) hxr.1 (powRest_le x) (powRest_le y)
  rw [pow2_of_range hx hxr, pow2_of_range hy hyr, hmag, hmag]
  refine hdec.round_mono hlo hhi ?_ ?_ _ _ _ <;> simp only [powEnclosure_den]
  exact Nat.mul_pos two_pos fixOne_pos

/-! ### Note frequencies (R150, R151) -/

/-- The exponent of a note's pitch: (note - 69.0)/12.0. -/
def noteExponent (note : Nat) : F64 :=
  F64.div (F64.sub (F64.ofNat note) (F64.ofNat 69)) (F64.ofNat 12)

/-- The pitch of a note before the octave: 440.0 × pow2((note - 69.0)/12.0). -/
def notePitch (note : Nat) : F64 := F64.mul (F64.ofNat 440) (pow2 (noteExponent note))

/-- The divisor of an octave (R151). -/
def octaveDivisor (oct : Int) : F64 :=
  if oct = 0 then F64.one else F64.mul F64.two (F64.ofInt oct)

theorem noteToFrequency_eq (note : Nat) (oct : Int) :
    noteToFrequency note oct = F64.div (notePitch note) (octaveDivisor oct) := by
  rw [noteToFrequency, octaveDivisor, ite_not]
  rfl

theorem F64.signedUnits_ofNat {k : Nat} (hk : k < 2 ^ 53) :
    (F64.ofNat k).signedUnits = k * F64.one1074 :=
  F64.signedUnits_ofInt (i := k) hk

/-- The difference of two whole numbers is exact. -/
theorem F64.sub_ofNat {a b : Nat} (ha : a < 2 ^ 53) (hb : b < 2 ^ 53) :
    F64.sub (F64.ofNat a) (F64.ofNat b) = F64.ofInt (a - b) := by
  have hone := F64.one1074_cast_pos
  have hsum : (F64.ofNat a).signedUnits + (F64.ofNat b).neg.signedUnits =
      (a - b : Int) * F64.one1074 := by
    rw [F64.signedUnits_neg, F64.signedUnits_ofNat ha, F64.signedUnits_ofNat hb]
    ring
  rw [F64.sub_of_finite (F64.finite_ofNat ha) (F64.finite_ofNat hb), F64.addFinite, hsum,
    F64.ofInt_eq_ofMag, Int.natAbs_mul, Int.natAbs_natCast]
  by_cases h : (a - b : Int) = 0
  · rw [h, Int.zero_mul, if_pos rfl, (F64.isBound_ofNat a).sign, Bool.false_and, Int.natAbs_zero,
      Nat.zero_mul, F64.roundMag_zero]
    rfl
  · have hneg : (a - b : Int) * F64.one1074 < 0 ↔ (a - b : Int) < 0 :=
      ⟨fun hlt => neg_of_mul_neg_left hlt hone.le, fun hlt => mul_neg_of_neg_of_pos hlt hone⟩
    rw [if_neg (Int.mul_ne_zero h hone.ne'), decide_eq_decide.mpr hneg]

theorem inPow2Range_of_atMost {x : F64} {k : Nat} (hx : x.AtMost k) (hk : k ≤ 1023) :
    InPow2Range x := by
  have hone := F64.one1074_cast_pos
  have hunits := hx.units_le (by omega)
  have hscale : k * F64.one1074 ≤ 1023 * F64.one1074 := Nat.mul_le_mul_right _ hk
  have habs := F64.natAbs_signedUnits x
  constructor
  · rw [powWhole, Int.le_ediv_iff_mul_le hone]
    omega
  · rw [powWhole, ← Int.lt_add_one_iff, Int.ediv_lt_iff_lt_mul hone]
    omega

/-- Dividing by a positive number keeps the order up to a nonnegative dividend. -/
theorem F64.signedUnits_div_le {x y z : F64} (hx : x.finite = true) (hy : y.finite = true)
    (hz : z.finite = true) (hyb : y.IsBound) (hy0 : 0 < y.units) (hzs : z.sign = false)
    (h : x.signedUnits ≤ z.signedUnits) :
    (F64.div x y).signedUnits ≤ (F64.div z y).signedUnits := by
  have hzero : y.isZero = false := decide_eq_false fun h0 => by
    rw [F64.units, h0] at hy0
    exact absurd hy0 (by decide)
  rw [F64.signedUnits, F64.signedUnits, hzs, if_neg Bool.false_ne_true] at h
  rw [F64.div_of_finite hx hy hzero, F64.div_of_finite hz hy hzero, hyb.sign, hzs,
    Bool.bne_false, Bool.bne_false, F64.signedUnits, F64.signedUnits, F64.sign_ofMag,
    F64.sign_ofMag, if_neg Bool.false_ne_true]
  cases hxs : x.sign
  · rw [hxs, if_neg Bool.false_ne_true] at h
    rw [if_neg Bool.false_ne_true]
    refine Int.ofNat_le.mpr (F64.units_mono ?_)
    rw [F64.mag_ofMag_roundMag, F64.mag_ofMag_roundMag]
    exact F64.roundMag_mono hy0 hy0
      (Nat.mul_le_mul_right _ (Nat.mul_le_mul_right _ (Int.ofNat_le.mp h)))
  · rw [if_pos rfl]
    omega

theorem noteExponent_eq {note : Nat} (h : note < 128) :
    noteExponent note = F64.div (F64.ofInt (note - 69)) (F64.ofNat 12) := by
  rw [noteExponent, F64.sub_ofNat (by omega) (by decide)]
  rfl

/-- The exponent of a MIDI note is at most 6.0 in magnitude, and largest at note 127. -/
theorem noteExponent_bounds {note : Nat} (h : note < 128) :
    (noteExponent note).AtMost 6 ∧
      (noteExponent note).signedUnits ≤ (noteExponent 127).signedUnits := by
  have htwelve : (F64.ofNat 12).finite = true := F64.finite_ofNat (by decide)
  have hunits : 0 < (F64.ofNat 12).units := by
    rw [F64.units_ofNat (by decide)]
    exact Nat.mul_pos (by decide) F64.one1074_pos
  have hdiff : (F64.ofInt (note - 69)).AtMost (6 * 12) := by
    rw [F64.AtMost, F64.mag_ofInt]
    exact F64.roundMag_le_ofNat one_pos
      ((Nat.mul_le_mul_right _ (by omega)).trans_eq (Nat.mul_one _).symm)
  rw [noteExponent_eq h, noteExponent_eq (by decide)]
  refine ⟨hdiff.div le_rfl (by decide) (by decide) (by decide) htwelve,
    F64.signedUnits_div_le (hdiff.finite (by decide)) htwelve (F64.finite_ofInt (by decide))
      (F64.isBound_ofNat 12) hunits (F64.sign_ofMag _ _) ?_⟩
  rw [F64.signedUnits_ofInt (by omega), F64.signedUnits_ofInt (by decide)]
  exact Int.mul_le_mul_of_nonneg_right (by omega) (Int.natCast_nonneg _)

theorem noteExponent_127_decides :
    (powEnclosure (powWhole (noteExponent 127)) (powRest (noteExponent 127))).Decides := by
  unfold Enclosure.Decides
  decide +kernel

theorem finite_pow2_noteExponent_127 : (pow2 (noteExponent 127)).finite = true := by decide +kernel

theorem finite_notePitch_127 : (notePitch 127).finite = true := by decide +kernel

theorem F64.mag_mul_le {a x y : F64} (ha : a.finite = true) (hy : y.finite = true)
    (h : x.mag ≤ y.mag) : (F64.mul a x).mag ≤ (F64.mul a y).mag := by
  have hx : x.finite = true := F64.finite_iff.mpr (h.trans_lt (F64.finite_iff.mp hy))
  rw [F64.mul_of_finite ha hx, F64.mul_of_finite ha hy, F64.mag_ofMag_roundMag,
    F64.mag_ofMag_roundMag]
  exact F64.roundMag_mono F64.one1074_pos F64.one1074_pos
    (Nat.mul_le_mul_right _ (Nat.mul_le_mul_left _ (F64.units_mono h)))

/-- No MIDI note has a higher pitch than note 127 (R162). -/
theorem notePitch_mag_le {note : Nat} (h : note < 128) :
    (notePitch note).mag ≤ (notePitch 127).mag := by
  obtain ⟨hmost, hle⟩ := noteExponent_bounds h
  obtain ⟨htop, -⟩ := noteExponent_bounds (note := 127) (by decide)
  exact F64.mag_mul_le (F64.finite_ofNat (by decide)) finite_pow2_noteExponent_127
    (pow2_mag_le (hmost.finite (by decide)) (htop.finite (by decide))
      (inPow2Range_of_atMost hmost (by decide)) (inPow2Range_of_atMost htop (by decide)) hle
      noteExponent_127_decides)

theorem finite_notePitch {note : Nat} (h : note < 128) : (notePitch note).finite = true :=
  F64.finite_iff.mpr ((notePitch_mag_le h).trans_lt (F64.finite_iff.mp finite_notePitch_127))

theorem F64.units_one : F64.one.units = F64.one1074 :=
  (F64.units_ofNat (by decide)).trans (Nat.one_mul _)

theorem F64.roundMag_units {x : F64} (hx : x.finite = true) {d : Nat} (hd : 0 < d) :
    F64.roundMag (x.units * d) d = x.mag :=
  F64.roundMag_magUnits hd (F64.finite_iff.mp hx).le

/-- Dividing a finite value by 1.0 gives that value. -/
theorem F64.div_one {x : F64} (hx : x.finite = true) : F64.div x F64.one = x := by
  have hzero : F64.one.isZero = false := by decide +kernel
  rw [F64.div_of_finite hx F64.finite_one hzero, F64.units_one, F64.isBound_one.sign,
    Bool.bne_false, F64.roundMag_units hx F64.one1074_pos, F64.ofMag_sign_mag]

/-- Dividing by a number of magnitude 1.0 or more does not grow a magnitude. -/
theorem F64.mag_div_le {x y : F64} (hx : x.finite = true) (hy : y.mag ≤ F64.infMag)
    (hone : F64.one.mag ≤ y.mag) : (F64.div x y).mag ≤ x.mag := by
  rcases hy.lt_or_eq with hlt | hinf
  · have hfin : y.finite = true := F64.finite_iff.mpr hlt
    obtain ⟨hzero, hunits⟩ := F64.units_ge_of_ofNat_le (b := 1) one_pos (by decide) hone
    rw [Nat.one_mul] at hunits
    rw [F64.div_of_finite hx hfin hzero, F64.mag_ofMag_roundMag]
    calc F64.roundMag (x.units * F64.one1074) y.units
        ≤ F64.roundMag (x.units * F64.one1074) F64.one1074 :=
          F64.roundMag_mono (F64.one1074_pos.trans_le hunits) F64.one1074_pos
            (Nat.mul_le_mul_left _ hunits)
      _ = x.mag := F64.roundMag_units hx F64.one1074_pos
  · have hdiv : F64.div x y = F64.ofMag (x.sign != y.sign) 0 := by
      have hnan : y.isNaN = false := decide_eq_false hy.not_gt
      have hisInf : y.isInf = true := decide_eq_true hinf
      simp [F64.div, F64.finite_not hx, hnan, hisInf]
    rw [hdiv, F64.mag_ofMag_le_inf _ (Nat.zero_le _)]
    exact Nat.zero_le _

/-- 2.0 times a number of magnitude 1.0 or more is one too, infinity included. -/
theorem F64.one_le_mul_two {x : F64} (hx : x.mag ≤ F64.infMag) (hone : F64.one.mag ≤ x.mag) :
    (F64.mul F64.two x).mag ≤ F64.infMag ∧ F64.one.mag ≤ (F64.mul F64.two x).mag := by
  rcases hx.lt_or_eq with hlt | hinf
  · obtain ⟨-, hunits⟩ := F64.units_ge_of_ofNat_le (b := 1) one_pos (by decide) hone
    have htwo : F64.two.units = 2 * F64.one1074 := F64.units_ofNat (by decide)
    rw [F64.mul_of_finite F64.finite_two (F64.finite_iff.mpr hlt), F64.mag_ofMag_roundMag, htwo]
    refine ⟨F64.roundMag_le_inf _ _, F64.ofNat_le_roundMag F64.one1074_pos ?_⟩
    exact Nat.mul_le_mul (Nat.mul_le_mul_right _ one_le_two)
      ((Nat.one_mul _).symm.trans_le hunits)
  · have hzero : F64.two.isZero = false := by decide +kernel
    have hmul : F64.mul F64.two x = F64.ofMag (F64.two.sign != x.sign) F64.infMag := by
      have hnan : x.isNaN = false := decide_eq_false hx.not_gt
      have hisInf : x.isInf = true := decide_eq_true hinf
      have hnonzero : x.isZero = false := by
        rw [F64.isZero, hinf]
        decide
      simp [F64.mul, F64.finite_not F64.finite_two, hnan, hisInf, hzero, hnonzero]
    rw [hmul, F64.mag_ofMag_le_inf _ le_rfl]
    exact ⟨le_rfl, F64.isBound_one.number⟩

/-- The divisor of an octave is a number of magnitude 1.0 or more, at every octave. -/
theorem octaveDivisor_bounds (oct : Int) :
    (octaveDivisor oct).mag ≤ F64.infMag ∧ F64.one.mag ≤ (octaveDivisor oct).mag := by
  unfold octaveDivisor
  split
  · exact ⟨F64.isBound_one.number, le_rfl⟩
  · rename_i h
    refine F64.one_le_mul_two ?_ ?_ <;> rw [F64.mag_ofInt]
    · exact F64.roundMag_le_inf _ _
    · exact F64.ofNat_le_roundMag one_pos
        ((Nat.mul_one _).trans_le (Nat.mul_le_mul_right _ (Int.natAbs_pos.mpr h)))

theorem noteToFrequency_octave_zero {note : Nat} (h : note < 128) :
    noteToFrequency note 0 = notePitch note := by
  rw [noteToFrequency_eq]
  exact F64.div_one (finite_notePitch h)

/-- Every note at every octave is at most note 127 at octave 0, in magnitude (R162). -/
theorem noteToFrequency_mag_le (note : BitVec 7) (oct : Int) :
    (noteToFrequency note.toNat oct).mag ≤ (noteToFrequency 127 0).mag := by
  obtain ⟨hnumber, hone⟩ := octaveDivisor_bounds oct
  rw [noteToFrequency_octave_zero (by decide), noteToFrequency_eq]
  exact (F64.mag_div_le (finite_notePitch note.isLt) hnumber hone).trans
    (notePitch_mag_le note.isLt)

/-- Settles O52: by definition, and since dividing a finite pitch by 1.0 keeps it; the reference
pitches are evaluated. -/
theorem noteFrequencyReferencePitches : Obligations.NoteFrequencyReferencePitches := by
  refine ⟨fun note oct => noteToFrequency_eq note.toNat oct, fun note oct h => ?_, ?_⟩
  · rw [noteToFrequency_octave_zero note.isLt, noteToFrequency_eq, octaveDivisor, if_neg h]
    rfl
  · decide +kernel

/-! ### The bound of the base frequencies (R162) -/

theorem F64.mag_max {a b : F64} (ha : a.IsBound) (hb : b.IsBound) :
    (F64.max a b).mag = Nat.max a.mag b.mag := by
  rw [F64.max, ha.not_nan, hb.not_nan, Bool.or_self, if_neg Bool.false_ne_true]
  split
  · rename_i h
    have hlt := (F64.lt_iff.mp h).2
    rw [ha.key_eq, hb.key_eq] at hlt
    exact (Nat.max_eq_right (by omega)).symm
  · rename_i h
    have hle := F64.le_of_lt_false ha.not_nan hb.not_nan (by simpa using h)
    exact (Nat.max_eq_left ((hb.le_iff ha).mp hle)).symm

theorem isBound_noteToFrequency_127 : (noteToFrequency 127 0).IsBound := by
  obtain ⟨hsign, hmag⟩ := noteToFrequency_127_bounds
  exact ⟨hsign, hmag.trans (F64.isBound_ofNat _).number⟩

/-- The bound is as large as each of the two frequencies it is made of. -/
theorem le_freqLimit {c : Config} (hc : c.legal = true) :
    c.halfFs.mag ≤ (freqLimit c).mag ∧ (noteToFrequency 127 0).mag ≤ (freqLimit c).mag := by
  rw [freqLimit, F64.mag_max (Config.isBound_halfFs hc) isBound_noteToFrequency_127]
  exact ⟨Nat.le_max_left _ _, Nat.le_max_right _ _⟩

theorem noteToFrequency_range {c : Config} (hc : c.legal = true) (note : BitVec 7) (oct : Int) :
    within (freqLimit c).neg (freqLimit c) (noteToFrequency note.toNat oct) = true :=
  (within_neg_iff (freqLimit_bounds hc).1).mpr
    ((noteToFrequency_mag_le note oct).trans (le_freqLimit hc).2)

theorem freqOf_freqLimit_range {c : Config} (hc : c.legal = true) {x : F64}
    (hx : x.finite = true) : within (freqLimit c).neg (freqLimit c) (freqOf c x) = true :=
  (within_neg_iff (freqLimit_bounds hc).1).mpr
    (((within_neg_iff (Config.isBound_halfFs hc)).mp (freqOf_range hc hx)).trans
      (le_freqLimit hc).1)

end Sys2Proof

namespace Sys2Proof.Machine

/-- Whatever a command writes into a base frequency is within the bound (R152, R157). -/
theorem OscWrite.freq_range {c : Config} (hc : c.legal = true) {o o' : Osc} (h : OscWrite c o o')
    (ho : within (freqLimit c).neg (freqLimit c) o.freq = true) :
    within (freqLimit c).neg (freqLimit c) o'.freq = true := by
  obtain hf | ⟨x, hx, hf⟩ | ⟨note, hf⟩ := h.freq <;> rw [hf]
  · exact ho
  · exact freqOf_freqLimit_range hc hx
  · exact noteToFrequency_range hc note o.oct

theorem State.FreqsInRange.of_same {s t : State} (hs : s.FreqsInRange) (h : SameVoice s t) :
    t.FreqsInRange := by
  obtain ⟨hcfg, hosc, hsub, -, -, -⟩ := h
  constructor
  · rw [hosc, hcfg]
    exact hs.osc
  · rw [hsub, hcfg]
    exact hs.sub

theorem State.FreqsInRange.reset {c : Config} (hc : c.legal = true) :
    (State.resetWith c).FreqsInRange where
  osc := noteToFrequency_range hc 69 c.oscOctave
  sub := noteToFrequency_range hc 69 c.subOctave

/-- Settles O43: a command writes a clamped frequency or a note's, a reset note 69's, and a tick
writes none; no note at any octave is above note 127 at octave 0. -/
theorem everyStepKeepsFrequencyBound : Obligations.EveryStepKeepsFrequencyBound := by
  intro s t hc hs h
  cases step_voice h with
  | write h =>
    have hosc := h.osc.freq_range hc hs.osc
    have hsub := h.sub.freq_range hc hs.sub
    rw [← h.cfg] at hosc hsub
    exact ⟨hosc, hsub⟩
  | tick h =>
    refine State.FreqsInRange.of_same ?_ h
    exact ⟨hs.osc, hs.sub⟩
  | reset c hc' h => exact (State.FreqsInRange.reset hc').of_same h

end Sys2Proof.Machine
end

section
/-! SUPPORT. The phase advance, the waveforms on the phase range and the velocity curve (R154, R158,
R159). -/

namespace Sys2Proof

open Machine (within phaseOk finite_of_phaseOk)

/-! ### Values of at least 0.0 -/

/-- The value is no negative number: a set sign bit is that of -0.0. -/
def F64.Nonneg (x : F64) : Prop := x.sign = true → x.mag = 0

theorem F64.Nonneg.key_eq {x : F64} (h : x.Nonneg) : x.key = x.mag := by
  unfold F64.key
  split
  · rename_i hs
    rw [h hs]
    rfl
  · rfl

theorem F64.Nonneg.signedUnits_eq {x : F64} (h : x.Nonneg) : x.signedUnits = x.units := by
  unfold F64.signedUnits
  split
  · rename_i hs
    rw [F64.units, h hs]
    rfl
  · rfl

theorem F64.IsBound.nonneg {b : F64} (hb : b.IsBound) : b.Nonneg := fun hs =>
  absurd (hb.sign.symm.trans hs) Bool.false_ne_true

theorem F64.units_lt_iff {x y : F64} : x.units < y.units ↔ x.mag < y.mag :=
  F64.magUnits_strictMono.lt_iff_lt

theorem F64.units_le_iff {x y : F64} : x.units ≤ y.units ↔ x.mag ≤ y.mag :=
  F64.magUnits_strictMono.le_iff_le

/-! ### The velocity curve (R154) -/

/-- The curve keeps the order of magnitudes. -/
theorem vgain_mag_mono {u v : F64} (hv : v.finite = true) (h : u.mag ≤ v.mag) :
    (vgain u).mag ≤ (vgain v).mag := by
  have hu : u.finite = true := F64.finite_iff.mpr (h.trans_lt (F64.finite_iff.mp hv))
  obtain ⟨-, hunits⟩ :=
    F64.units_ge_of_ofNat_le (b := 127) (y := f127) (by decide) (by decide) le_rfl
  have hpos : 0 < f127.units := (Nat.mul_pos (by decide) F64.one1074_pos).trans_le hunits
  rw [vgain, vgain, F64.div_of_finite hu finite_f127 f127_ne_zero,
    F64.div_of_finite hv finite_f127 f127_ne_zero, F64.mag_ofMag_roundMag, F64.mag_ofMag_roundMag]
  exact F64.roundMag_mono hpos hpos
    (Nat.mul_le_mul_right _ (Nat.mul_le_mul_right _ (F64.units_mono h)))

theorem vgain_ends : vgain F64.zero = F64.zero ∧ vgain (F64.ofNat 127) = F64.one := by
  decide +kernel

/-- Settles O56: on [0, 127] the order is that of the magnitudes, and dividing by 127.0 rounds
monotonely. -/
theorem velocityCurveIsMonotone : Obligations.VelocityCurveIsMonotone := by
  refine ⟨vgain_ends.1, vgain_ends.2, fun u v hu hv huv => ?_⟩
  have hrange : ∀ {w}, within F64.zero f127 w = true → w.mag ≤ f127.mag ∧ w.Nonneg :=
    (within_zero_iff f127_isBound).mp
  have hgain : ∀ {w}, within F64.zero f127 w = true →
      (vgain w).mag ≤ F64.one.mag ∧ (vgain w).Nonneg := fun hw =>
    (within_zero_iff F64.isBound_one).mp (vgain_range hw)
  obtain ⟨-, hu0⟩ := hrange hu
  obtain ⟨hvmax, hv0⟩ := hrange hv
  obtain ⟨hgu, hgu0⟩ := hgain hu
  obtain ⟨hgv, hgv0⟩ := hgain hv
  have hmag : u.mag ≤ v.mag := by
    have hkey := (F64.le_iff.mp huv).2
    rwa [hu0.key_eq, hv0.key_eq, Int.ofNat_le] at hkey
  have hfin : v.finite = true :=
    F64.finite_iff.mpr (hvmax.trans_lt (F64.finite_iff.mp finite_f127))
  have hone := F64.isBound_one.number
  rw [F64.le_iff, hgu0.key_eq, hgv0.key_eq, Int.ofNat_le]
  exact ⟨⟨hgu.trans hone, hgv.trans hone⟩, vgain_mag_mono hfin hmag⟩

/-! ### The phase advance (R158) -/

/-- Settles O53: by definition, by the range lemma of the phase advance, and the six examples
evaluated. -/
theorem phaseAdvanceStaysInUnitRange : Obligations.PhaseAdvanceStaysInUnitRange :=
  ⟨fun _ _ => rfl, fun _ _ => phaseOk_adv, by decide +kernel⟩

/-! ### The waveforms on the phase range (R159) -/

theorem within_one_of_natAbs_le {x : F64} (h : x.signedUnits.natAbs ≤ F64.one1074) :
    within F64.one.neg F64.one x = true := by
  rw [F64.natAbs_signedUnits, ← F64.units_one] at h
  exact (within_neg_iff F64.isBound_one).mpr (F64.units_le_iff.mp h)

/-- The difference of two values that are at most 1.0 apart is between -1.0 and 1.0. -/
theorem within_one_sub {x y : F64} (hx : x.finite = true) (hy : y.finite = true)
    (h : (x.signedUnits - y.signedUnits).natAbs ≤ F64.one1074) :
    within F64.one.neg F64.one (F64.sub x y) = true := by
  rw [Int.sub_eq_add_neg, ← F64.signedUnits_neg] at h
  rw [F64.sub_of_finite hx hy, within_neg_iff F64.isBound_one, F64.mag_addFinite]
  exact F64.roundMag_le_ofNat one_pos (by omega)

section
variable {p : F64}

theorem nonneg_of_phaseOk (hp : phaseOk p = true) : p.Nonneg := (phaseOk_iff.mp hp).2

theorem units_of_phaseOk (hp : phaseOk p = true) : p.units < F64.one1074 := by
  rw [← F64.units_one]
  exact F64.units_lt_iff.mpr (phaseOk_iff.mp hp).1

/-- A phase is below a corner of `a` quarters exactly where four times its units are below `a`. -/
theorem lt_corner_iff (hp : phaseOk p = true) {c : F64} (hc : c.IsBound) {a : Nat}
    (hunits : 4 * c.units = a * F64.one1074) :
    F64.lt p c = true ↔ 4 * p.units < a * F64.one1074 := by
  have hnumber : p.mag ≤ F64.infMag :=
    (phaseOk_iff.mp hp).1.le.trans F64.isBound_one.number
  rw [F64.lt_iff, (nonneg_of_phaseOk hp).key_eq, hc.key_eq, Int.ofNat_lt, ← F64.units_lt_iff,
    ← hunits]
  have := hc.number
  omega

theorem lt_quarter_iff (hp : phaseOk p = true) :
    F64.lt p quarter = true ↔ 4 * p.units < 1 * F64.one1074 :=
  lt_corner_iff hp (F64.isBound_ofMag (F64.roundMag_le_inf _ _)) (by decide +kernel)

theorem lt_half_iff (hp : phaseOk p = true) :
    F64.lt p half = true ↔ 4 * p.units < 2 * F64.one1074 :=
  lt_corner_iff hp (F64.isBound_ofMag (F64.roundMag_le_inf _ _)) (by decide +kernel)

theorem lt_threeQuarters_iff (hp : phaseOk p = true) :
    F64.lt p threeQuarters = true ↔ 4 * p.units < 3 * F64.one1074 :=
  lt_corner_iff hp (F64.isBound_ofMag (F64.roundMag_le_inf _ _)) (by decide +kernel)

/-- A whole multiple of a phase, rounded, stays between the whole numbers that it lies between. -/
theorem ofNat_mul_phase_bounds (hp : phaseOk p = true) {k a b : Nat} (hk : k < 2 ^ 53)
    (hbk : b ≤ k) (hlow : a * F64.one1074 ≤ k * p.units)
    (hhigh : k * p.units ≤ b * F64.one1074) :
    (F64.mul (F64.ofNat k) p).finite = true ∧
      (a * F64.one1074 : Nat) ≤ (F64.mul (F64.ofNat k) p).signedUnits ∧
      (F64.mul (F64.ofNat k) p).signedUnits ≤ (b * F64.one1074 : Nat) := by
  have hb : b < 2 ^ 53 := hbk.trans_lt hk
  have ha : a < 2 ^ 53 :=
    (Nat.le_of_mul_le_mul_right (hlow.trans hhigh) F64.one1074_pos).trans_lt hb
  have hmul : F64.mul (F64.ofNat k) p =
      F64.ofMag p.sign (F64.roundMag (k * p.units * F64.one1074) F64.one1074) := by
    rw [F64.mul_of_finite (F64.finite_ofNat hk) (finite_of_phaseOk hp), F64.units_ofNat hk,
      Nat.mul_right_comm, (F64.isBound_ofNat k).sign, Bool.false_bne]
  have hmost : ∀ {m}, k * p.units ≤ m * F64.one1074 → (F64.mul (F64.ofNat k) p).AtMost m := by
    intro m hm
    rw [hmul, F64.AtMost, F64.mag_ofMag_roundMag]
    exact F64.roundMag_le_ofNat F64.one1074_pos (Nat.mul_le_mul_right _ hm)
  have hleast : (F64.ofNat a).mag ≤ (F64.mul (F64.ofNat k) p).mag := by
    rw [hmul, F64.mag_ofMag_roundMag]
    exact F64.ofNat_le_roundMag F64.one1074_pos (Nat.mul_le_mul_right _ hlow)
  have hnonneg : (F64.mul (F64.ofNat k) p).Nonneg := fun hs => by
    rw [hmul, F64.sign_ofMag] at hs
    have hzero : p.units = 0 := by
      rw [F64.units, nonneg_of_phaseOk hp hs]
      decide
    exact F64.atMost_zero_iff.mp (hmost (by rw [hzero, Nat.mul_zero, Nat.zero_mul]))
  rw [hnonneg.signedUnits_eq, Int.ofNat_le, Int.ofNat_le, ← F64.units_ofNat ha]
  exact ⟨(hmost hhigh).finite hb, F64.units_mono hleast, (hmost hhigh).units_le hb⟩

theorem signedUnits_two_four : (F64.ofNat 2).signedUnits = (2 * F64.one1074 : Nat) ∧
    (F64.ofNat 4).signedUnits = (4 * F64.one1074 : Nat) :=
  ⟨F64.signedUnits_ofNat (by decide), F64.signedUnits_ofNat (by decide)⟩

theorem within_one_sawtooth (hp : phaseOk p = true) :
    within F64.one.neg F64.one (wave .sawtooth p) = true := by
  have hlt := units_of_phaseOk hp
  have htwo := signedUnits_two_four.1
  rw [wave, F64.two]
  split
  · rename_i h
    rw [lt_half_iff hp] at h
    obtain ⟨-, hlow, hhigh⟩ := ofNat_mul_phase_bounds hp (k := 2) (a := 0) (b := 1) (by decide)
      (by decide) (by omega) (by omega)
    exact within_one_of_natAbs_le (by omega)
  · rename_i h
    rw [lt_half_iff hp] at h
    obtain ⟨hfin, hlow, hhigh⟩ := ofNat_mul_phase_bounds hp (k := 2) (a := 1) (b := 2) (by decide)
      (by decide) (by omega) (by omega)
    exact within_one_sub hfin F64.finite_two (by omega)

theorem within_one_triangle (hp : phaseOk p = true) :
    within F64.one.neg F64.one (wave .triangle p) = true := by
  have hlt := units_of_phaseOk hp
  obtain ⟨htwo, hfour⟩ := signedUnits_two_four
  rw [wave, F64.two, four]
  split
  · rename_i h
    rw [lt_quarter_iff hp] at h
    obtain ⟨-, hlow, hhigh⟩ := ofNat_mul_phase_bounds hp (k := 4) (a := 0) (b := 1) (by decide)
      (by decide) (by omega) (by omega)
    exact within_one_of_natAbs_le (by omega)
  · rename_i h
    rw [lt_quarter_iff hp] at h
    split
    · rename_i h3
      rw [lt_threeQuarters_iff hp] at h3
      obtain ⟨hfin, hlow, hhigh⟩ := ofNat_mul_phase_bounds hp (k := 4) (a := 1) (b := 3)
        (by decide) (by decide) (by omega) (by omega)
      exact within_one_sub F64.finite_two hfin (by omega)
    · rename_i h3
      rw [lt_threeQuarters_iff hp] at h3
      obtain ⟨hfin, hlow, hhigh⟩ := ofNat_mul_phase_bounds hp (k := 4) (a := 3) (b := 4)
        (by decide) (by decide) (by omega) (by omega)
      exact within_one_sub hfin (F64.finite_ofNat (by decide)) (by omega)

theorem within_one_square (p : F64) : within F64.one.neg F64.one (wave .square p) = true := by
  rw [wave, within_neg_iff F64.isBound_one]
  split
  · exact le_rfl
  · exact (F64.mag_neg _).le

theorem within_one_wave (k : Waveform) (hp : phaseOk p = true) :
    within F64.one.neg F64.one (wave k p) = true := by
  cases k with
  | sine => exact (sineIsBounded p (finite_of_phaseOk hp)).1
  | square => exact within_one_square p
  | sawtooth => exact within_one_sawtooth hp
  | triangle => exact within_one_triangle hp

end

/-- Settles O54: by definition; each piece of a waveform is a multiple of the phase that stays near
a whole number; the table is evaluated. -/
theorem waveformsStayWithinOne : Obligations.WaveformsStayWithinOne :=
  ⟨fun _ => ⟨rfl, rfl, rfl, rfl⟩, fun k _ hp => within_one_wave k hp, by decide +kernel⟩

end Sys2Proof
end

section
/-! SUPPORT. What no command writes (R163, R182, R200), and what only a note command writes. -/

namespace Sys2Proof.Machine

/-- No filter write touches the delay line (R234, R238). -/
theorem FltWrite.delay {c : Config} {f f' : Flt} (h : FltWrite c f f') :
    f'.x1 = f.x1 ∧ f'.x2 = f.x2 ∧ f'.y1 = f.y1 ∧ f'.y2 = f.y2 := by
  cases h with
  | kept | cutoff | resonance | type => exact ⟨rfl, rfl, rfl, rfl⟩

/-- The held notes, the last event and, but for the four parameters, the envelope are kept. -/
structure NotesKept (s t : State) : Prop where
  noteActive : t.noteActive = s.noteActive
  noteLast : t.noteLast = s.noteLast
  env : t.env = { s.env with a := t.env.a, d := t.env.d, s := t.env.s, r := t.env.r }

theorem NotesKept.refl (s : State) : NotesKept s s := ⟨rfl, rfl, rfl⟩

theorem NotesKept.of_withValue {v : F64} {f : F64 → State → State} {s t : State}
    (h : withValue v f s = .next t) (hf : ∀ x, NotesKept s (f x s)) : NotesKept s t := by
  obtain rfl | ⟨x, -, rfl⟩ := withValue_next h
  · exact .refl t
  · exact hf x

theorem NotesKept.setOscType (x : F64) (s : State) : NotesKept s (s.setOscType x) := by
  obtain h | ⟨k, h⟩ := State.setOscType_cases x s <;> rw [h] <;> exact ⟨rfl, rfl, rfl⟩

theorem NotesKept.setSubType (x : F64) (s : State) : NotesKept s (s.setSubType x) := by
  obtain h | ⟨k, h⟩ := State.setSubType_cases x s <;> rw [h] <;> exact ⟨rfl, rfl, rfl⟩

theorem NotesKept.setFilterType (x : F64) (s : State) : NotesKept s (s.setFilterType x) := by
  obtain h | ⟨k, h⟩ := State.setFilterType_cases x s <;> rw [h] <;> exact ⟨rfl, rfl, rfl⟩

/-- Only the three note commands write the held notes, the last event or the schedule. -/
theorem exec_notesKept {i : Instr} {s t : State} (h : exec i s = .next t)
    (hon : ∀ b1 b2, i ≠ .midiNoteOn b1 b2) (hvel0 : ∀ b1, i ≠ .midiNoteOnVel0 b1)
    (hoff : ∀ b1 b2, i ≠ .midiNoteOff b1 b2) : NotesKept s t := by
  cases i with
  | nop | midiActiveSensing | midiBadLength | midiOther | paramUnknownDest | paramUnknownParam
  | reservedKind =>
    rw [show t = s from next_inj h]
    exact .refl s
  | midiNoteOn b1 b2 => exact absurd rfl (hon b1 b2)
  | midiNoteOnVel0 b1 => exact absurd rfl (hvel0 b1)
  | midiNoteOff b1 b2 => exact absurd rfl (hoff b1 b2)
  | paramOscType v => exact .of_withValue h (.setOscType · s)
  | paramSubType v => exact .of_withValue h (.setSubType · s)
  | paramFilterType v => exact .of_withValue h (.setFilterType · s)
  | paramOscLevel v | paramOscFrequency v | paramSubLevel v | paramSubFrequency v
  | paramFilterCutoff v | paramFilterResonance v | paramEnvAttack v | paramEnvDecay v
  | paramEnvSustain v | paramEnvRelease v | paramLfoLevel v | paramLfoFrequency v =>
    unfold exec at h
    exact .of_withValue h fun _ => ⟨rfl, rfl, rfl⟩

/-- Settles O25: what a command writes leaves the running registers, and a command other than a note
command leaves the notes and the schedule. -/
theorem commandsKeepRunningState : Obligations.CommandsKeepRunningState := by
  intro i s t h
  have hw := exec_next h
  obtain ⟨hx1, hx2, hy1, hy2⟩ := hw.flt.delay
  refine ⟨congrArg (·.sampleCount) hw.frame, hw.osc.phase, hw.sub.phase, hw.lfo.phase, hx1, hx2,
    hy1, hy2, hw.ovf, hw.fifo, congrArg (·.snapshot) hw.frame, hw.osc.oct, hw.sub.oct, hw.cfg,
    hw.seq, congrArg (·.outside) hw.frame, fun hon hvel0 hoff => ?_⟩
  obtain ⟨hactive, hlast, henv⟩ := exec_notesKept h hon hvel0 hoff
  exact ⟨hactive, hlast, henv⟩

end Sys2Proof.Machine
end

section
/-! SUPPORT. Order facts of binary64 that the ramp follower needs: ranges inside ranges, products
with a factor of at most 1.0, and exact whole numbers (R13, R18). -/

namespace Sys2Proof

open Machine (within)

/-! ### Ranges inside ranges (R18) -/

theorem within_iff {lo hi x : F64} :
    within lo hi x = true ↔ F64.le lo x = true ∧ F64.le x hi = true := Bool.and_eq_true_iff

theorem within_zero_zero {b : F64} (h : F64.le F64.zero b = true) :
    within F64.zero b F64.zero = true :=
  within_iff.mpr ⟨by decide, h⟩

theorem F64.atMost_one_of_within {x : F64} (h : within F64.zero F64.one x = true) : x.AtMost 1 :=
  ((within_zero_iff F64.isBound_one).mp h).1

theorem F64.le_trans {x y z : F64} (hxy : F64.le x y = true) (hyz : F64.le y z = true) :
    F64.le x z = true := by
  obtain ⟨⟨hx, -⟩, hkey⟩ := F64.le_iff.mp hxy
  obtain ⟨⟨-, hz⟩, hkey'⟩ := F64.le_iff.mp hyz
  exact F64.le_iff.mpr ⟨⟨hx, hz⟩, hkey.trans hkey'⟩

/-- A range whose ends lie in another range is part of it. -/
theorem within_subrange {lo hi a b x : F64} (ha : within lo hi a = true)
    (hb : within lo hi b = true) (hx : within a b x = true) : within lo hi x = true := by
  rw [within_iff] at *
  exact ⟨F64.le_trans ha.1 hx.1, F64.le_trans hx.2 hb.2⟩

theorem F64.mag_le_inf_of_within {lo hi x : F64} (h : within lo hi x = true) :
    x.mag ≤ F64.infMag :=
  (F64.le_iff.mp (within_iff.mp h).1).1.2

theorem F64.min_of_number {a b : F64} (ha : a.mag ≤ F64.infMag) (hb : b.mag ≤ F64.infMag) :
    F64.min a b = if b.key < a.key then b else a := by
  simp [F64.min, F64.lt, F64.isNaN, Nat.not_lt.mpr ha, Nat.not_lt.mpr hb]

theorem F64.max_of_number {a b : F64} (ha : a.mag ≤ F64.infMag) (hb : b.mag ≤ F64.infMag) :
    F64.max a b = if a.key < b.key then b else a := by
  simp [F64.max, F64.lt, F64.isNaN, Nat.not_lt.mpr ha, Nat.not_lt.mpr hb]

/-- The range between two numbers, in either order, is not empty. -/
theorem F64.min_le_max {a b : F64} (ha : a.mag ≤ F64.infMag) (hb : b.mag ≤ F64.infMag) :
    F64.le (F64.min a b) (F64.max a b) = true := by
  rw [F64.min_of_number ha hb, F64.max_of_number ha hb, F64.le_iff]
  split <;> split <;> omega

/-- A finite value clamped between two values of a range, in either order, is in that range. -/
theorem within_clamp_between {lo hi a b v : F64} (ha : within lo hi a = true)
    (hb : within lo hi b = true) (hv : v.finite = true) :
    within lo hi (F64.clamp v (F64.min a b) (F64.max a b)) = true := by
  have hna := F64.mag_le_inf_of_within ha
  have hnb := F64.mag_le_inf_of_within hb
  have hmin : within lo hi (F64.min a b) = true := by
    rw [F64.min_of_number hna hnb]
    split <;> assumption
  have hmax : within lo hi (F64.max a b) = true := by
    rw [F64.max_of_number hna hnb]
    split <;> assumption
  have hnumber : ∀ {x}, within lo hi x = true → x.isNaN = false := fun h =>
    decide_eq_false (Nat.not_lt.mpr (F64.mag_le_inf_of_within h))
  exact within_subrange hmin hmax
    (within_clamp hv (hnumber hmin) (hnumber hmax) (F64.min_le_max hna hnb))

/-! ### Sums, products and quotients -/

theorem F64.AtMost.sub {x y : F64} {a b : Nat} (hx : x.AtMost a) (hy : y.AtMost b)
    (ha : a < 2 ^ 53) (hb : b < 2 ^ 53) : (F64.sub x y).AtMost (a + b) := by
  have hneg : y.neg.AtMost b := (F64.mag_neg y).trans_le hy
  rw [F64.sub_of_finite (hx.finite ha) (hy.finite hb),
    ← F64.add_of_finite (hx.finite ha) (hneg.finite hb)]
  exact hx.add hneg ha hb

/-- A factor of at most 1.0 does not grow a magnitude. -/
theorem F64.mag_mul_le_of_atMost_one {x y : F64} (hx : x.AtMost 1) (hy : y.finite = true) :
    (F64.mul x y).mag ≤ y.mag := by
  have hunits : x.units * y.units ≤ y.units * F64.one1074 := by
    rw [Nat.mul_comm x.units]
    exact Nat.mul_le_mul_left _ ((hx.units_le (by decide)).trans_eq (Nat.one_mul _))
  rw [F64.mul_of_finite (hx.finite (by decide)) hy, F64.mag_ofMag_roundMag,
    ← F64.roundMag_units hy F64.one1074_pos]
  exact F64.roundMag_mono F64.one1074_pos F64.one1074_pos (Nat.mul_le_mul_right _ hunits)

/-- Every 64-bit count is finite as a binary64 value. -/
theorem F64.finite_ofNat_of_le {n : Nat} (hn : n ≤ 2 ^ 64) : (F64.ofNat n).finite = true := by
  have htop : (F64.ofNat (2 ^ 64)).finite = true := by decide +kernel
  exact F64.finite_iff.mpr ((F64.mag_ofNat_mono hn).trans_lt (F64.finite_iff.mp htop))

/-- A position inside a segment over the segment's length is at most 1.0. -/
theorem F64.div_ofNat_atMost_one {j n : Nat} (hj : j < n) (hn : n ≤ 2 ^ 64) :
    (F64.div (F64.ofNat j) (F64.ofNat n)).AtMost 1 := by
  have hmag : (F64.ofNat j).mag ≤ (F64.ofNat n).mag := F64.mag_ofNat_mono hj.le
  obtain ⟨hzero, hone⟩ := F64.units_ge_of_ofNat_le (b := 1) one_pos (by decide)
    (F64.mag_ofNat_mono (Nat.one_le_of_lt hj))
  have hpos : 0 < (F64.ofNat n).units := (Nat.mul_pos one_pos F64.one1074_pos).trans_le hone
  rw [F64.div_of_finite (F64.finite_ofNat_of_le (hj.le.trans hn)) (F64.finite_ofNat_of_le hn) hzero,
    F64.AtMost, F64.mag_ofMag_roundMag]
  refine F64.roundMag_le_ofNat hpos ?_
  rw [Nat.one_mul, Nat.mul_comm]
  exact Nat.mul_le_mul_left _ (F64.units_mono hmag)

/-- A product of whole numbers below 2^53 is exact. -/
theorem F64.mul_ofNat {a b : Nat} (ha : a < 2 ^ 53) (hb : b < 2 ^ 53) :
    F64.mul (F64.ofNat a) (F64.ofNat b) = F64.ofNat (a * b) := by
  rw [F64.mul_of_finite (F64.finite_ofNat ha) (F64.finite_ofNat hb), F64.units_ofNat ha,
    F64.units_ofNat hb, (F64.isBound_ofNat a).sign, (F64.isBound_ofNat b).sign,
    bne_self_eq_false]
  refine congrArg (F64.ofMag false) (F64.roundMag_congr F64.one1074_pos one_pos ?_)
  ring

/-- Rounding a whole number to a whole number keeps it. -/
theorem F64.rne_ofNat {k : Nat} (hk : k < 2 ^ 53) : F64.rne (F64.ofNat k) = k := by
  rw [F64.rne, if_pos (F64.finite_ofNat hk), (F64.isBound_ofNat k).sign,
    if_neg Bool.false_ne_true, F64.units_ofNat hk, F64.rneDiv_mul k F64.one1074_pos]

end Sys2Proof
end

section
/-! SUPPORT. The envelope's ramp follower (42_envelope.md): ramp lengths, the gain at each place
of the schedule, the two triggers, and the range of the gain. -/

namespace Sys2Proof

open Machine (within)

/-! ### Ramp lengths (R191) -/

/-- A ramp length depends on FS only. -/
theorem rampLen_congr {c d : Config} (h : c.fs = d.fs) (x : BitVec 7) :
    rampLen c x = rampLen d x := by
  rw [rampLen, rampLen, Config.fsF, Config.fsF, h]

/-- A ramp of whole seconds, five at most, is that many times FS. -/
theorem rampLen_of_seconds {c : Config} (hc : c.legal = true) {x : BitVec 7} {n : Nat} (hn : n ≤ 5)
    (hx : F64.mul (F64.div (F64.ofNat x.toNat) f127) (F64.ofNat 5) = F64.ofNat n) :
    (rampLen c x).toNat = n * c.fs := by
  have hfs := Config.fs_bounds hc
  have hsamples : n * c.fs ≤ 5 * 768000 := Nat.mul_le_mul hn hfs.2
  have hlen := (rampLen_toNat hc x).1
  rw [rampSamples, hx, Config.fsF, F64.mul_ofNat (by omega) (by omega),
    F64.rne_ofNat (by omega)] at hlen
  exact Int.ofNat_inj.mp hlen

theorem rampLen_ends {c : Config} (hc : c.legal = true) :
    (rampLen c 0).toNat = 0 ∧ (rampLen c 127).toNat = 5 * c.fs :=
  ⟨(rampLen_of_seconds hc (Nat.zero_le 5) (by decide +kernel)).trans (Nat.zero_mul _),
    rampLen_of_seconds hc le_rfl (by decide +kernel)⟩

/-- The examples of R191, evaluated. -/
theorem rampLen_examples :
    (rampLen { Config.reference with fs := 48000 } 1 = 1890 ∧
      rampLen { Config.reference with fs := 48000 } 64 = 120945 ∧
      rampLen { Config.reference with fs := 48000 } 127 = 240000) ∧
    rampLen { Config.reference with fs := 25400 } 1 = 1000 ∧
      rampLen { Config.reference with fs := 25400 } 2 = 2000 := by
  decide +kernel

/-- Settles O55: the rounded length fits its 64 bits; at x = 0 and x = 127 the seconds are whole and
every rounding is exact; a length depends on FS only, so that the examples are two evaluated
configurations. -/
theorem rampLengthEnds : Obligations.RampLengthEnds := by
  obtain ⟨h48000, h25400⟩ := rampLen_examples
  refine ⟨fun c x hc => (rampLen_toNat hc x).1, fun c => rampLen_ends, fun c => ⟨?_, ?_⟩⟩
  · intro hfs
    simpa only [rampLen_congr (c := c) (d := { Config.reference with fs := 48000 }) hfs]
      using h48000
  · intro hfs
    simpa only [rampLen_congr (c := c) (d := { Config.reference with fs := 25400 }) hfs]
      using h25400

/-! ### The gain at each place of the schedule (R193, R194) -/

section
variable {e : Env}

theorem Env.segments_zero (h : e.nseg = 0) : e.segments = [] := by
  rw [Env.segments, h]
  rfl

theorem Env.segments_one (h : e.nseg = 1) : e.segments = [(e.seg0Tgt, e.seg0Len)] := by
  rw [Env.segments, h]
  rfl

theorem Env.segments_two (h : e.nseg = 2) :
    e.segments = [(e.seg0Tgt, e.seg0Len), (e.seg1Tgt, e.seg1Len)] := by
  rw [Env.segments, h]
  rfl

theorem Env.segments_cons (h : e.nseg ≠ 0) :
    ∃ rest, e.segments = (e.seg0Tgt, e.seg0Len) :: rest := by
  obtain h0 | h1 | h2 : e.nseg = 0 ∨ e.nseg = 1 ∨ e.nseg = 2 := by omega
  · exact absurd h0 h
  · exact ⟨_, Env.segments_one h1⟩
  · exact ⟨_, Env.segments_two h2⟩

theorem walkSegments_inside {k t : Nat} {len : BitVec 64} (h : k < t + len.toNat) (v tgt : F64)
    (rest : List (F64 × BitVec 64)) :
    walkSegments k t v ((tgt, len) :: rest) = ramp v tgt (k - t) len.toNat := if_pos h

theorem walkSegments_past {k t : Nat} {len : BitVec 64} (h : t + len.toNat ≤ k) (v tgt : F64)
    (rest : List (F64 × BitVec 64)) :
    walkSegments k t v ((tgt, len) :: rest) = walkSegments k (t + len.toNat) tgt rest :=
  if_neg (Nat.not_lt.mpr h)

theorem Env.gain_unscheduled (h : e.nseg = 0) : e.gain = e.v0 := by
  rw [Env.gain, Env.segments_zero h, walkSegments]

theorem Env.gain_in_first (h : e.nseg ≠ 0) (hk : e.k.toNat < e.seg0Len.toNat) :
    e.gain = ramp e.v0 e.seg0Tgt e.k.toNat e.seg0Len.toNat := by
  obtain ⟨rest, hsegments⟩ := Env.segments_cons h
  rw [Env.gain, hsegments, walkSegments_inside (by omega), Nat.sub_zero]

theorem Env.gain_in_second (h : e.nseg = 2) (hk : e.seg0Len.toNat ≤ e.k.toNat)
    (hk' : e.k.toNat < e.seg0Len.toNat + e.seg1Len.toNat) :
    e.gain = ramp e.seg0Tgt e.seg1Tgt (e.k.toNat - e.seg0Len.toNat) e.seg1Len.toNat := by
  rw [Env.gain, Env.segments_two h, walkSegments_past (by omega), walkSegments_inside (by omega),
    Nat.zero_add]

theorem Env.gain_past_one (h : e.nseg = 1) (hk : e.seg0Len.toNat ≤ e.k.toNat) :
    e.gain = e.seg0Tgt := by
  rw [Env.gain, Env.segments_one h, walkSegments_past (by omega), walkSegments]

theorem Env.gain_past_two (h : e.nseg = 2)
    (hk : e.seg0Len.toNat + e.seg1Len.toNat ≤ e.k.toNat) : e.gain = e.seg1Tgt := by
  rw [Env.gain, Env.segments_two h, walkSegments_past (by omega), walkSegments_past (by omega),
    walkSegments]

/-- ENV_STAGE as the chain of conditions of R41. -/
theorem Env.stage_eq_ite (e : Env) :
    e.stage =
      if e.mode = .idle then .idle
      else if e.mode = .off ∧ e.seg0Len.toNat ≤ e.k.toNat then .idle
      else if e.mode = .off then .release
      else if e.k.toNat < e.seg0Len.toNat then .attack
      else if e.nseg = 2 ∧ e.k.toNat < e.seg0Len.toNat + e.seg1Len.toNat then .decay
      else .sustain := by
  unfold Env.stage
  cases e.mode <;> simp

end

/-- Settles O57: the gain at each place of the schedule by its own lemma, the stage by its mode. -/
theorem gainAndStageOfTheSchedule : Obligations.GainAndStageOfTheSchedule := fun e =>
  ⟨Env.gain_unscheduled, Env.gain_in_first, Env.gain_in_second, Env.gain_past_one,
    Env.gain_past_two, e.stage_eq_ite⟩

/-! ### The triggers (R195 to R198) -/

theorem Env.triggerOn_decay {e : Env} (h : e.d.toNat < 127) (c : Config) (vel : BitVec 7) :
    e.triggerOn c vel = { e.attack c vel with
      nseg := 2, seg1Tgt := sustainOf e.s (peakOf vel), seg1Len := rampLen c e.d } := if_pos h

theorem Env.triggerOn_hold {e : Env} (h : ¬e.d.toNat < 127) (c : Config) (vel : BitVec 7) :
    e.triggerOn c vel = e.attack c vel := if_neg h

/-- Settles O10: one equation for each side of D = 127. -/
theorem triggerOnBuildsSchedule : Obligations.TriggerOnBuildsSchedule := fun c vel _ =>
  ⟨fun h => Env.triggerOn_decay h c vel, fun h => Env.triggerOn_hold (by omega) c vel⟩

/-- Settles O13: by definition; without a segment the gain is V0; with R = 0 the release has no
samples, so that K = 0 is past it. -/
theorem triggerOffReleasesFromCurrentGain : Obligations.TriggerOffReleasesFromCurrentGain := by
  refine fun c e => ⟨rfl, fun hnseg hv0 => (Env.gain_unscheduled hnseg).trans hv0, fun hc hr => ?_⟩
  have hlen : (e.triggerOff c).seg0Len.toNat = 0 := by rw [Env.triggerOff, hr, (rampLen_ends hc).1]
  exact Env.gain_past_one rfl (hlen.trans_le (Nat.zero_le _))

/-! ### The gain is within the peak (R204) -/

/-- The line of a ramp between two values of at most 1.0 is finite inside the segment. -/
theorem finite_rampLine {a b : F64} {j n : Nat} (ha : a.AtMost 1) (hb : b.AtMost 1) (hj : j < n)
    (hn : n ≤ 2 ^ 64) : (rampLine a b j n).finite = true := by
  have hstep := (hb.sub ha (by decide) (by decide)).mul (F64.div_ofNat_atMost_one hj hn)
    (by decide) (by decide)
  exact (ha.add hstep (by decide) (by decide)).finite (by decide)

/-- The schedule's values are in [0, peak], so a ramp between two of them is, inside its segment. -/
theorem within_ramp {peak a b : F64} (hpeak : within F64.zero F64.one peak = true)
    (ha : within F64.zero peak a = true) (hb : within F64.zero peak b = true) {j n : Nat}
    (hj : j < n) (hn : n ≤ 2 ^ 64) : within F64.zero peak (ramp a b j n) = true := by
  have hone : ∀ {x}, within F64.zero peak x = true → x.AtMost 1 := fun hx =>
    F64.atMost_one_of_within
      (within_subrange (within_zero_zero (F64.le_zero_bound F64.isBound_one)) hpeak hx)
  exact within_clamp_between ha hb (finite_rampLine (hone ha) (hone hb) hj hn)

/-- The walk from a start at or before K keeps to the range of the start value and the targets. -/
theorem within_walkSegments {peak : F64} (hpeak : within F64.zero F64.one peak = true) {k : Nat}
    (segments : List (F64 × BitVec 64)) {t : Nat} {v : F64} (ht : t ≤ k)
    (hv : within F64.zero peak v = true)
    (htargets : ∀ p ∈ segments, within F64.zero peak p.1 = true) :
    within F64.zero peak (walkSegments k t v segments) = true := by
  induction segments generalizing t v with
  | nil => exact hv
  | cons p rest ih =>
    obtain ⟨tgt, len⟩ := p
    obtain ⟨htgt, hrest⟩ := List.forall_mem_cons.mp htargets
    rcases Nat.lt_or_ge k (t + len.toNat) with hk | hk
    · rw [walkSegments_inside hk]
      exact within_ramp hpeak hv htgt (by omega) len.isLt.le
    · rw [walkSegments_past hk]
      exact ih hk htgt hrest

/-- Settles O46: the walk starts at position 0 from V0. -/
theorem gainIsWithinPeak : Obligations.GainIsWithinPeak := fun _ he =>
  within_walkSegments he.peak _ (Nat.zero_le _) he.start he.targets

end Sys2Proof
end

section
/-! SUPPORT. Every step keeps the envelope's schedule in its ranges (R39, R204). -/

namespace Sys2Proof.Machine

/-- A peak is a number in [0.0, 1.0] with its sign clear (R192). -/
theorem peakOf_range (vel : BitVec 7) :
    within F64.zero F64.one (peakOf vel) = true ∧ (peakOf vel).IsBound := by
  have hvel : (F64.ofNat vel.toNat).mag ≤ f127.mag := F64.mag_ofNat_mono (by omega)
  have hbound := F64.isBound_ofNat vel.toNat
  exact ⟨vgain_range ((within_zero_iff f127_isBound).mpr ⟨hvel, hbound.nonneg⟩),
    hbound.div f127_isBound (F64.finite_ofNat (by omega)) finite_f127 f127_ne_zero⟩

/-- The sustain level is at most the peak: ENV.S over 127 is at most 1.0 (R195, R197). -/
theorem sustainOf_range (s vel : BitVec 7) :
    within F64.zero (peakOf vel) (sustainOf s (peakOf vel)) = true := by
  obtain ⟨hrange, hbound⟩ := peakOf_range vel
  obtain ⟨hratio, hratioBound⟩ := peakOf_range s
  have hone := F64.atMost_one_of_within hratio
  have hfin := (F64.atMost_one_of_within hrange).finite (by decide)
  have hproduct := hratioBound.mul hbound (hone.finite (by decide)) hfin
  exact (within_zero_iff hbound).mpr
    ⟨F64.mag_mul_le_of_atMost_one hone hfin, hproduct.nonneg⟩

/-- A trigger builds a schedule in range, whatever stood before it. -/
theorem EnvInRange.triggerOn (c : Config) (vel : BitVec 7) (e : Env) :
    EnvInRange (e.triggerOn c vel) := by
  obtain ⟨hpeak, hbound⟩ := peakOf_range vel
  have hzero := within_zero_zero (F64.le_zero_bound hbound)
  have hself : within F64.zero (peakOf vel) (peakOf vel) = true := within_zero_self hbound
  by_cases h : e.d.toNat < 127
  · rw [Env.triggerOn_decay h]
    refine ⟨hpeak, hzero, ?_⟩
    rw [Env.segments_two rfl]
    exact List.forall_mem_cons.mpr ⟨hself, List.forall_mem_singleton.mpr (sustainOf_range _ _)⟩
  · rw [Env.triggerOn_hold h]
    refine ⟨hpeak, hzero, ?_⟩
    rw [Env.segments_one rfl]
    exact List.forall_mem_singleton.mpr hself

/-- A release starts from the gain, which is within the peak, and ends at 0.0. -/
theorem EnvInRange.triggerOff {e : Env} (he : EnvInRange e) (c : Config) :
    EnvInRange (e.triggerOff c) := by
  refine ⟨he.peak, gainIsWithinPeak e he, ?_⟩
  rw [Env.segments_one rfl]
  exact List.forall_mem_singleton.mpr (within_zero_zero (within_iff.mp he.peak).1)

theorem EnvInRange.of_envWrite {c : Config} {e e' : Env} (he : EnvInRange e)
    (h : EnvWrite c e e') : EnvInRange e' := by
  cases h with
  | params a d s r => exact ⟨he.peak, he.start, he.targets⟩
  | trigger vel => exact EnvInRange.triggerOn c vel e
  | release => exact he.triggerOff c

theorem EnvInRange.reset : EnvInRange resetEnv where
  peak := by decide +kernel
  start := by decide
  targets := by simp [Env.segments_zero (e := resetEnv) rfl]

/-- Settles O45: of what a step can do to the envelope, a trigger builds a schedule in range and a
release starts from a gain within the peak; a tick writes only K, and reset clears the schedule. -/
theorem everyStepKeepsTheScheduleInRange : Obligations.EveryStepKeepsTheScheduleInRange := by
  intro s t hs h
  cases step_voice h with
  | write h => exact hs.of_envWrite h.env
  | tick h =>
    rw [h.env]
    exact ⟨hs.peak, hs.start, hs.targets⟩
  | reset c _ h =>
    rw [h.env]
    exact EnvInRange.reset

end Sys2Proof.Machine
end

section
/-! The filter's coefficients (R231, R232) and its worked impulse response (R241). -/

namespace Sys2Proof

/-! ### The coefficients of each type -/

theorem minusTwo_eq_ofInt : minusTwo = F64.ofInt (-2) := by decide +kernel

/-- The feedback coefficients and a0 do not depend on the type (R231). -/
theorem rawOf_feedback (k : FilterType) (co al : F64) :
    (rawOf k co al).a0 = F64.add F64.one al ∧ (rawOf k co al).a1 = F64.mul minusTwo co ∧
      (rawOf k co al).a2 = F64.sub F64.one al := by
  cases k <;> exact ⟨rfl, rfl, rfl⟩

/-- The stored feedforward coefficients are those of the filter's type, each over a0 (R232). -/
theorem recompute_feedforward (c : Config) {f : Flt} {k : FilterType} (hk : f.type = k) :
    (f.recompute c).b0 =
        F64.div (rawCoeffs c k f.cutoff f.q).b0 (rawCoeffs c k f.cutoff f.q).a0 ∧
      (f.recompute c).b1 =
        F64.div (rawCoeffs c k f.cutoff f.q).b1 (rawCoeffs c k f.cutoff f.q).a0 ∧
      (f.recompute c).b2 =
        F64.div (rawCoeffs c k f.cutoff f.q).b2 (rawCoeffs c k f.cutoff f.q).a0 := by
  subst hk
  exact ⟨rfl, rfl, rfl⟩

/-- Settles O19: the feedback coefficients have one form for all types, the feedforward ones are
those of the type, and `recompute` divides each by a0. -/
theorem coefficientFormulas : Obligations.CoefficientFormulas := by
  intro c f t co al a0 b0 b1 b2
  obtain ⟨ha0, ha1, ha2⟩ := rawOf_feedback f.type co al
  rw [← minusTwo_eq_ofInt]
  exact ⟨congrArg₂ F64.div ha1 ha0, congrArg₂ F64.div ha2 ha0, recompute_feedforward c,
    recompute_feedforward c, recompute_feedforward c, recompute_feedforward c,
    recompute_feedforward c⟩

/-! ### The impulse response of the lowpass at a quarter of the sampling rate -/

/-- The lowpass with FS = 48000, fc = 12000 and Q = 1, its coefficients as R232 lists them, with the
given delay line. -/
def quarterLowpass (x1 x2 y1 y2 : F64) : Flt :=
  { type := .lowpass, cutoff := F64.ofNat 12000, q := F64.one,
    b0 := F64.ofRat false 3333333333333333 (10 ^ 16),
    b1 := F64.ofRat false 6666666666666666 (10 ^ 16),
    b2 := F64.ofRat false 3333333333333333 (10 ^ 16),
    a1 := F64.zero.neg, a2 := F64.ofRat false 3333333333333333 (10 ^ 16), x1, x2, y1, y2 }

/-- The first example of R232, from clear delay registers. -/
theorem recompute_quarterLowpass :
    Flt.recompute ⟨48000, 1, 64, 0, 1⟩
      { (resetFlt ⟨48000, 1, 64, 0, 1⟩) with
        type := .lowpass, cutoff := F64.ofNat 12000, q := F64.one } =
      quarterLowpass F64.zero F64.zero F64.zero F64.zero := by
  decide +kernel

/-- One sample moves the delay line and keeps the coefficients (R233, R234). -/
theorem shift_quarterLowpass {f : Flt} {x x1 x2 y y1 y2 : F64}
    (hf : f = quarterLowpass x1 x2 y1 y2) (hy : (quarterLowpass x1 x2 y1 y2).output x = y) :
    f.shift x = quarterLowpass x x1 y y1 := by
  subst hf hy
  rfl

/-- Settles O58: six samples through the filter of R232's example, each output computed from the
delay line that the sample before it left. -/
theorem lowpassImpulseResponse : Obligations.LowpassImpulseResponse := by
  unfold Obligations.LowpassImpulseResponse
  intro c f0 f1 f2 f3 f4 f5 f6
  have h0 : f0 = quarterLowpass F64.zero F64.zero F64.zero F64.zero := recompute_quarterLowpass
  have h1 : f1 = quarterLowpass F64.one F64.zero
      (F64.ofRat false 3333333333333333 (10 ^ 16)) F64.zero :=
    shift_quarterLowpass h0 (by decide +kernel)
  have h2 : f2 = quarterLowpass F64.zero F64.one
      (F64.ofRat false 6666666666666666 (10 ^ 16)) _ :=
    shift_quarterLowpass h1 (by decide +kernel)
  have h3 : f3 = quarterLowpass F64.zero F64.zero
      (F64.ofRat false 2222222222222222 (10 ^ 16)) _ :=
    shift_quarterLowpass h2 (by decide +kernel)
  have h4 : f4 = quarterLowpass F64.zero F64.zero
      (F64.ofRat true 2222222222222222 (10 ^ 16)) _ :=
    shift_quarterLowpass h3 (by decide +kernel)
  have h5 : f5 = quarterLowpass F64.zero F64.zero
      (F64.ofRat true 7407407407407407 (10 ^ 17)) _ :=
    shift_quarterLowpass h4 (by decide +kernel)
  have h6 : f6 = quarterLowpass F64.zero F64.zero
      (F64.ofRat false 7407407407407407 (10 ^ 17)) _ :=
    shift_quarterLowpass h5 (by decide +kernel)
  exact ⟨congrArg Flt.y1 h1, congrArg Flt.y1 h2, congrArg Flt.y1 h3, congrArg Flt.y1 h4,
    congrArg Flt.y1 h5, congrArg Flt.y1 h6⟩

end Sys2Proof
end

section
/-! SUPPORT. The block step (R263, R264): one tick written out, the command at the head of a batch, and
the small steps of the engine (log 12) from one block boundary to the next. -/

namespace Sys2Proof.Machine

/-! ### The tick (R263) -/

/-- LFO.KIND has one value, so the LFO's waveform is the sine (R180, R181). -/
theorem Lfo.sample_eq_sine (o : Lfo) : o.sample = F64.mul o.level (sinTurns o.phase) := by
  unfold Lfo.sample
  cases o.kind
  rfl

/-- Settles O28: the LFO sample is its sine, and the rest of the tick is the pseudocode. -/
theorem tickFollowsThePseudocode : Obligations.TickFollowsThePseudocode := by
  intro s l so ss x y fs
  have hl : s.lfo.sample = l := Lfo.sample_eq_sine s.lfo
  rw [State.tick, State.advanceRegs, hl]
  rfl

/-! ### The command at the head of the batch (R84, R264) -/

theorem engineStep_apply {s : State} {w : CommandWord} {ws : List CommandWord}
    (h : s.seq = .applying (w :: ws)) :
    engineStep s = exec (decode w) (s.setSeq (.applying ws)) := by
  rw [engineStep, h]

theorem State.withFetchWord_toNat (s : State) (w : CommandWord) :
    s.withFetchWord 128 w.toNat = s.withCommand w := by
  rw [State.withFetchWord, Nat.mod_eq_of_lt w.isLt, BitVec.ofNat_toNat, BitVec.setWidth_eq]

/-- Settles O26: the step is the engine's, which applies the head of the batch; a well-formed command
is decoded from its own word. -/
theorem stepAppliesDecodedCommand : Obligations.StepAppliesDecodedCommand := by
  refine ⟨fun s w ws hscript hseq => ?_, fun s w ws rest hscript hseq => ?_,
    fun i s hi => ⟨s.withFetchWord_toNat (encode i), ?_⟩⟩
  · exact (machineStep_no_script hscript).trans (engineStep_apply hseq)
  · exact (machineStep_script hscript).trans (engineStep_apply (s := s.setScript rest) hseq)
  · have hstep : step (s.withCommand (encode i)) = exec (decode (encode i)) _ :=
      (machineStep_no_script rfl).trans (engineStep_apply rfl)
    rw [hstep, decodeOfEncodeIsIdentity i hi]
    rfl

/-! ### Commands and the place in the block (R380, log 12) -/

/-- An operation that neither reads nor writes the place in the block. -/
def IgnoresSeq (f : State → State) : Prop := ∀ s q, f (s.setSeq q) = (f s).setSeq q

theorem IgnoresSeq.noteOn (note vel : BitVec 7) : IgnoresSeq (State.noteOn note (some vel)) := by
  intro s q
  by_cases h : vel = 0
  · subst h
    rfl
  · rw [State.noteOn_some h, State.noteOn_some h]
    rfl

theorem IgnoresSeq.noteOff (note : BitVec 7) : IgnoresSeq (State.noteOff note) := by
  intro s q
  by_cases h : s.noteActive &&& ~~~ noteBit note = 0
  · rw [State.noteOff_last h, State.noteOff_last (s := s.setSeq q) h]
    rfl
  · rw [State.noteOff_held h, State.noteOff_held (s := s.setSeq q) h]
    rfl

theorem IgnoresSeq.setOscType (x : F64) : IgnoresSeq (State.setOscType x) := by
  intro s q
  unfold State.setOscType
  cases waveformOf x <;> rfl

theorem IgnoresSeq.setSubType (x : F64) : IgnoresSeq (State.setSubType x) := by
  intro s q
  unfold State.setSubType
  cases waveformOf x <;> rfl

theorem IgnoresSeq.setFilterType (x : F64) : IgnoresSeq (State.setFilterType x) := by
  intro s q
  unfold State.setFilterType
  cases filterTypeOf x <;> rfl

theorem withValue_eq_next (v : F64) {f : F64 → State → State} (hf : ∀ x, IgnoresSeq (f x)) :
    ∃ g, IgnoresSeq g ∧ ∀ s, withValue v f s = .next (g s) := by
  cases h : v.finite with
  | false => exact ⟨id, fun _ _ => rfl, withValue_not_finite h f⟩
  | true => exact ⟨_, hf _, withValue_finite h f⟩

/-- Every command completes, and the place in the block plays no part in what it does. -/
theorem exec_eq_next (i : Instr) : ∃ g, IgnoresSeq g ∧ ∀ s, exec i s = .next (g s) := by
  cases i with
  | nop | midiActiveSensing | midiBadLength | midiOther | paramUnknownDest | paramUnknownParam
  | reservedKind => exact ⟨id, fun _ _ => rfl, fun _ => rfl⟩
  | midiNoteOn b1 b2 =>
    exact ⟨_, fun s q => congrArg _ (IgnoresSeq.noteOn _ _ s q), fun _ => rfl⟩
  | midiNoteOnVel0 b1 | midiNoteOff b1 b2 =>
    exact ⟨_, fun s q => congrArg _ (IgnoresSeq.noteOff _ s q), fun _ => rfl⟩
  | paramOscType v => exact withValue_eq_next v .setOscType
  | paramSubType v => exact withValue_eq_next v .setSubType
  | paramFilterType v => exact withValue_eq_next v .setFilterType
  | paramOscLevel v | paramOscFrequency v | paramSubLevel v | paramSubFrequency v
  | paramFilterCutoff v | paramFilterResonance v | paramEnvAttack v | paramEnvDecay v
  | paramEnvSustain v | paramEnvRelease v | paramLfoLevel v | paramLfoFrequency v =>
    exact withValue_eq_next v fun _ _ _ => rfl

theorem exec_completes (i : Instr) (s : State) : ∃ t, exec i s = .next t := by
  obtain ⟨g, -, hg⟩ := exec_eq_next i
  exact ⟨g s, hg s⟩

theorem exec_setSeq {i : Instr} {s t : State} (h : exec i s = .next t) (q : Seq) :
    exec i (s.setSeq q) = .next (t.setSeq q) := by
  obtain ⟨g, hseq, hg⟩ := exec_eq_next i
  rw [hg, hseq, next_inj ((hg s).symm.trans h)]

/-! ### The batch (R84, R264) -/

theorem applyBatch_cons {w : CommandWord} {s u : State} (h : exec (decode w) s = .next u)
    (ws : List CommandWord) : applyBatch (w :: ws) s = applyBatch ws u := by
  rw [applyBatch, h]

theorem applyBatch_completes (ws : List CommandWord) (s : State) :
    ∃ t, applyBatch ws s = .next t := by
  induction ws generalizing s with
  | nil => exact ⟨s, rfl⟩
  | cons w ws ih =>
    obtain ⟨u, hu⟩ := exec_completes (decode w) s
    rw [applyBatch_cons hu]
    exact ih u

/-- What no command writes, no batch writes. -/
theorem applyBatch_keeps {α : Type} {field : State → α}
    (hfield : ∀ {s t : State}, CommandWrite s t → field t = field s) {ws : List CommandWord}
    {s t : State} (h : applyBatch ws s = .next t) : field t = field s := by
  induction ws generalizing s with
  | nil => rw [next_inj h]
  | cons w ws ih =>
    obtain ⟨u, hu⟩ := exec_completes (decode w) s
    rw [applyBatch_cons hu] at h
    exact (ih h).trans (hfield (exec_next hu))

theorem CommandWrite.sampleCount {s t : State} (h : CommandWrite s t) :
    t.sampleCount = s.sampleCount := by
  rw [h.frame]

theorem CommandWrite.outside {s t : State} (h : CommandWrite s t) : t.outside = s.outside := by
  rw [h.frame]

theorem applyBatch_cfg {ws : List CommandWord} {s t : State} (h : applyBatch ws s = .next t) :
    t.cfg = s.cfg :=
  applyBatch_keeps (field := State.cfg) (fun hw => hw.cfg) h

/-! ### The ticks of a block (R263 to R265) -/

theorem State.ticks_cfg (n : Nat) (s : State) : (s.ticks n).cfg = s.cfg := by
  induction n generalizing s with
  | zero => rfl
  | succ n ih => exact ih s.tick

theorem State.ticks_fifo (n : Nat) (s : State) : (s.ticks n).fifo = s.fifo := by
  induction n generalizing s with
  | zero => rfl
  | succ n ih => exact ih s.tick

theorem State.ticks_sampleCount (n : Nat) (s : State) :
    (s.ticks n).sampleCount = s.sampleCount + BitVec.ofNat 64 n := by
  induction n generalizing s with
  | zero => exact (BitVec.add_zero _).symm
  | succ n ih =>
    rw [State.ticks, ih, State.tick_sampleCount, BitVec.add_assoc, Nat.add_comm, BitVec.ofNat_add]
    rfl

/-- Each tick hands the sink one sample (R95). -/
theorem State.ticks_audio (n : Nat) (s : State) :
    ∃ l, l.length = n ∧ (s.ticks n).outside.audio = s.outside.audio ++ l := by
  induction n generalizing s with
  | zero => exact ⟨[], rfl, (List.append_nil _).symm⟩
  | succ n ih =>
    obtain ⟨l, hlen, haudio⟩ := ih s.tick
    refine ⟨s.sampleOut :: l, congrArg (· + 1) hlen, haudio.trans ?_⟩
    rw [State.tick_outside, List.append_assoc, List.singleton_append]

/-! ### The block step (R264) -/

theorem State.blockStep_eq {s u : State} (h : applyBatch s.fifo (s.setFifo []) = .next u) :
    s.blockStep = .next (u.ticks u.cfg.block).publish := by
  rw [State.blockStep, h]

/-- Settles O30: the batch completes and writes neither the FIFO, SAMPLE_COUNT, the configuration nor
the audio stream; then each of the BLOCK ticks hands out one sample. -/
theorem blockStepEmitsBlockSamples : Obligations.BlockStepEmitsBlockSamples := by
  intro s
  obtain ⟨u, hu⟩ := applyBatch_completes s.fifo (s.setFifo [])
  have hcfg : u.cfg = s.cfg := (applyBatch_cfg hu).trans (s.setFifo_cfg [])
  have hfifo : u.fifo = [] := (applyBatch_keeps CommandWrite.fifo hu).trans (s.setFifo_fifo [])
  have hcount : u.sampleCount = s.sampleCount :=
    (applyBatch_keeps CommandWrite.sampleCount hu).trans (s.setFifo_sampleCount [])
  have houtside : u.outside = s.outside :=
    (applyBatch_keeps CommandWrite.outside hu).trans (s.setFifo_outside [])
  obtain ⟨l, hlen, haudio⟩ := u.ticks_audio u.cfg.block
  refine ⟨_, l, State.blockStep_eq hu, hcfg ▸ hlen, houtside ▸ haudio, ?_, ?_, ?_, rfl, rfl, rfl⟩
  · rw [State.publish_sampleCount, State.ticks_sampleCount, hcount, hcfg]
  · rw [State.publish_fifo, State.ticks_fifo, hfifo]
  · rw [State.publish_cfg, State.ticks_cfg, hcfg]

/-! ### The engine's steps from one boundary to the next (R264, log 12) -/

/-- So many steps of the engine lead from `s` to `t`, and the last one is the first to end at a block
boundary. -/
inductive BlockRun : Nat → State → State → Prop
  | last {s t : State} (h : engineStep s = .next t) (ht : t.seq = .boundary) : BlockRun 1 s t
  | more {k : Nat} {s u t : State} (h : engineStep s = .next u) (hu : u.seq ≠ .boundary)
      (run : BlockRun k u t) : BlockRun (k + 1) s t

/-- The ticks still to come, then the snapshot. -/
theorem BlockRun.ticking (n : Nat) (s : State) :
    BlockRun (n + 1) (s.setSeq (.ticking n)) (s.ticks n).publish := by
  induction n generalizing s with
  | zero => exact .last (engineStep_publish rfl) rfl
  | succ n ih => exact .more (engineStep_tick rfl) nofun (ih s.tick)

/-- The commands still to be applied, the end of the batch, then the ticks. -/
theorem BlockRun.applying {ws : List CommandWord} {s t : State}
    (h : applyBatch ws s = .next t) :
    BlockRun (ws.length + t.cfg.block + 2) (s.setSeq (.applying ws))
      (t.ticks t.cfg.block).publish := by
  induction ws generalizing s with
  | nil =>
    rw [next_inj h, List.length_nil, Nat.zero_add]
    exact .more (engineStep_batchEnd rfl) nofun (.ticking s.cfg.block s)
  | cons w ws ih =>
    obtain ⟨u, hu⟩ := exec_completes (decode w) s
    rw [applyBatch_cons hu] at h
    have hstep : engineStep (s.setSeq (.applying (w :: ws))) = .next (u.setSeq (.applying ws)) :=
      (engineStep_apply rfl).trans (exec_setSeq hu _)
    rw [List.length_cons, Nat.add_right_comm ws.length, Nat.add_right_comm _ 1]
    exact .more hstep nofun (ih h)

/-- From a boundary the engine's steps end where `block_step` ends. -/
theorem BlockRun.boundary {s : State} (h : s.seq = .boundary) :
    ∃ t, s.blockStep = .next t ∧ BlockRun (s.fifo.length + s.cfg.block + 3) s t := by
  obtain ⟨u, hu⟩ := applyBatch_completes s.fifo (s.setFifo [])
  have hcfg : u.cfg = s.cfg := (applyBatch_cfg hu).trans (s.setFifo_cfg [])
  refine ⟨_, State.blockStep_eq hu, ?_⟩
  rw [← hcfg]
  exact .more (engineStep_boundary h) nofun (.applying hu)

/-! ### The machine's steps (R125, log 13) -/

/-- No step of the engine touches the host's script. -/
theorem engineStep_script {s t : State} (h : engineStep s = .next t) :
    t.outside.script = s.outside.script := by
  obtain ⟨-, h'⟩ | ⟨-, h'⟩ | ⟨w, ws, -, h'⟩ | ⟨-, h'⟩ | ⟨n, -, h'⟩ := engineStep_cases s <;>
    rw [h'] at h
  · rw [next_inj h, State.takeBatch_outside]
  · rw [next_inj h, State.setSeq_outside]
  · rw [(exec_next h).outside, State.setSeq_outside]
  · rw [next_inj h, State.publish_outside]
  · rw [next_inj h, State.setSeq_outside, State.tick_outside]

theorem run_succ_of_step {M : Host.Core} {s u : M.State} (h : M.step s = .next u) (k : Nat) :
    M.run (k + 1) s = M.run k u := by
  rw [Host.Core.run, h]

theorem core_run_succ {s u : State} (h : step s = .next u) (k : Nat) :
    Host.Core.run Sys2Proof.core (k + 1) s = Host.Core.run Sys2Proof.core k u :=
  run_succ_of_step (M := Sys2Proof.core) h k

theorem BlockRun.core_run {k : Nat} {s t : State} (h : BlockRun k s t)
    (hscript : s.outside.script = []) : Host.Core.run Sys2Proof.core k s = .next t := by
  induction h with
  | last h ht => exact core_run_succ ((machineStep_no_script hscript).trans h) 0
  | more h hu run ih =>
    rw [core_run_succ ((machineStep_no_script hscript).trans h)]
    exact ih ((engineStep_script h).trans hscript)

/-- A step of `run (n + 1)` is the engine's, and one block step is done when it ends at a boundary. -/
theorem step_run_succ {s t : State} {n : Nat} {rest : List HostAction}
    (hscript : s.outside.script = .run (n + 1) :: rest)
    (h : engineStep (s.setScript rest) = .next t) :
    step s = .next (t.setScript (runRest n rest t)) := by
  rw [step, machineStep_script hscript, hostStep, h]

theorem State.setScript_of_eq {s : State} {script : List HostAction}
    (h : s.outside.script = script) : s.setScript script = s := by
  rw [← h]
  rfl

/-- With `run (n + 1)` as the host's next act the same steps leave `run n` to do. -/
theorem BlockRun.core_run_script {k : Nat} {s t : State} (h : BlockRun k s t) {n : Nat}
    {rest : List HostAction} (hscript : s.outside.script = rest) :
    Host.Core.run Sys2Proof.core k (s.setScript (.run (n + 1) :: rest)) =
      .next (t.setScript (.run n :: rest)) := by
  have hstep {u v : State} (hu : u.outside.script = rest) (h : engineStep u = .next v) :
      step (u.setScript (.run (n + 1) :: rest)) = .next (v.setScript (runRest n rest v)) :=
    step_run_succ rfl ((congrArg engineStep (State.setScript_of_eq hu)).trans h)
  induction h with
  | last h ht =>
    rw [core_run_succ (hstep hscript h), runRest, if_pos ht]
    rfl
  | more h hu run ih =>
    rw [core_run_succ (hstep hscript h), runRest, if_neg hu]
    exact ih ((engineStep_script h).trans hscript)

/-- Settles O29: the engine's steps from a boundary end where `block_step` ends, and the machine takes
these steps both with no act pending and under `run (n + 1)`. -/
theorem stepsOfABlockAreTheBlockStep : Obligations.StepsOfABlockAreTheBlockStep := by
  refine ⟨fun s hscript hseq => ?_, fun s n rest hscript hseq => ?_,
    fun s t n rest hscript h => ?_, fun s rest hscript => machineStep_script hscript⟩
  · obtain ⟨t, hblock, hrun⟩ := BlockRun.boundary hseq
    exact ⟨t, hblock, hrun.core_run hscript⟩
  · obtain ⟨t, hblock, hrun⟩ := BlockRun.boundary (s := s.setScript rest) hseq
    refine ⟨t, hblock, ?_⟩
    rw [← State.setScript_of_eq hscript]
    exact hrun.core_run_script rfl
  · rw [step_run_succ hscript h, runRest]
    split <;> rfl

end Sys2Proof.Machine
end

section
/-! SUPPORT. The note commands (R293 to R302): which words decode to a note-on, the clamped data
bytes, the layout of NOTE.LAST, the highest held note, and the state each note command answers. -/

namespace Sys2Proof

/-! ### Note-on words (R112, R290) -/

/-- A word with bits [127:112] = 0x1390 is a MIDI word of LEN 3 and status 0x90. -/
theorem decode_noteOnStatus {w : CommandWord} (h : w.extractLsb' 112 16 = 0x1390#16) :
    decode w = decodeMidi 3 0x90 (fieldB1 w) (fieldB2 w) := by
  have hbits : w.extractLsb' 112 16 = (midiWord 3 0x90 0 0).extractLsb' 112 16 :=
    h.trans (by decide)
  have hkind : fieldKind w = 1 := extractLsb'_congr hbits 12 4 (by decide)
  have hlen : fieldLen w = 3 := extractLsb'_congr hbits 8 4 (by decide)
  have hb0 : fieldB0 w = 0x90 := extractLsb'_congr hbits 0 8 (by decide)
  rw [decode_kind_one hkind, hlen, hb0]

/-! ### The data bytes (R293) -/

theorem clampData_toNat (b : Byte) : (clampData b).toNat = Nat.min b.toNat 127 := by
  unfold clampData
  split
  · exact (Nat.min_eq_right (by omega)).symm
  · rw [BitVec.toNat_setWidth, Nat.mod_eq_of_lt (by omega)]
    exact (Nat.min_eq_left (by omega)).symm

theorem clampData_eq {b : Byte} {n : BitVec 7} (h : n.toNat = Nat.min b.toNat 127) :
    clampData b = n :=
  BitVec.eq_of_toNat_eq ((clampData_toNat b).trans h.symm)

end Sys2Proof

namespace Sys2Proof.Machine

/-! ### The event record (R44, R302) -/

theorem lastEvent_eq (event : BitVec 8) (note vel : BitVec 7) :
    lastEvent event note vel = event ++ 0x00#8 ++ note.setWidth 8 ++ vel.setWidth 8 := by
  rw [BitVec.setWidth_eq_append (by decide), BitVec.setWidth_eq_append (by decide)]
  rfl

/-- The four bytes of NOTE.LAST, the highest first. -/
theorem lastEvent_bytes (event : BitVec 8) (note vel : BitVec 7) :
    (lastEvent event note vel).extractLsb' 24 8 = event ∧
    (lastEvent event note vel).extractLsb' 16 8 = 0#8 ∧
    (lastEvent event note vel).extractLsb' 8 8 = note.setWidth 8 ∧
    (lastEvent event note vel).extractLsb' 0 8 = vel.setWidth 8 := by
  refine ⟨?_, ?_, ?_, ?_⟩ <;>
  · apply BitVec.eq_of_getLsbD_eq
    intro i hi
    simp only [lastEvent_eq, BitVec.getLsbD_extractLsb', BitVec.getLsbD_append]
    interval_cases i <;> simp

/-! ### The held notes (R42, R18) -/

/-- The highest bit of a set is its last one. -/
theorem maxBit_eq {a : BitVec 128} {h : BitVec 7} (hh : a.getLsbD h.toNat = true)
    (hlast : ∀ j, h.toNat < j → a.getLsbD j = false) : maxBit a = h := by
  have hle : 2 ^ h.toNat ≤ a.toNat := Nat.ge_two_pow_of_testBit hh
  have hlt : a.toNat < 2 ^ (h.toNat + 1) := Nat.lt_pow_two_of_testBit _ hlast
  have hne : a.toNat ≠ 0 := ((Nat.two_pow_pos _).trans_le hle).ne'
  rw [maxBit, (Nat.log2_eq_iff hne).mpr ⟨hle, hlt⟩, BitVec.ofNat_toNat, BitVec.setWidth_eq]

theorem noteBit_eq_twoPow (n : BitVec 7) : noteBit n = BitVec.twoPow 128 n.toNat := rfl

/-- To hold a held note again changes nothing. -/
theorem or_noteBit_of_held {a : BitVec 128} {n : BitVec 7} (h : a.getLsbD n.toNat = true) :
    a ||| noteBit n = a := by
  apply BitVec.eq_of_getLsbD_eq
  intro i hi
  by_cases hin : i = n.toNat
  · rw [hin, BitVec.getLsbD_or, h, Bool.true_or]
  · have hbit : (noteBit n).getLsbD i = false := by
      rw [noteBit_eq_twoPow, BitVec.getLsbD_twoPow]
      simp [Ne.symm hin]
    rw [BitVec.getLsbD_or, hbit, Bool.or_false]

/-! ### The note commands (R294 to R296) -/

theorem exec_midiNoteOn {b1 b2 : Byte} (h : b2 ≠ 0) (s : State) :
    exec (.midiNoteOn b1 b2) s = .next
      { s with
        noteActive := s.noteActive ||| noteBit (clampData b1)
        osc := s.osc.playNote (clampData b1)
        sub := s.sub.playNote (clampData b1)
        env := s.env.triggerOn s.cfg (clampData b2)
        noteLast := lastEvent 1 (clampData b1) (clampData b2) } := by
  rw [exec, execMidiNoteOn, State.noteOn_some (clampData_ne_zero h)]
  rfl

theorem exec_midiNoteOff_last {b1 : Byte} {s : State}
    (h : s.noteActive &&& ~~~ noteBit (clampData b1) = 0) (b2 : Byte) :
    exec (.midiNoteOff b1 b2) s = .next
      { s with
        noteActive := 0
        env := s.env.triggerOff s.cfg
        noteLast := lastEvent 2 (clampData b1) (clampData b2) } := by
  rw [exec, execMidiNoteOff, State.noteOff_last h]
  rfl

theorem exec_midiNoteOff_held {b1 : Byte} {s : State} {a : BitVec 128}
    (ha : s.noteActive &&& ~~~ noteBit (clampData b1) = a) {top : BitVec 7}
    (htop : a.getLsbD top.toNat = true) (hlast : ∀ j, top.toNat < j → a.getLsbD j = false)
    (b2 : Byte) :
    exec (.midiNoteOff b1 b2) s = .next
      { s with
        noteActive := a
        osc := s.osc.playNote top
        sub := s.sub.playNote top
        noteLast := lastEvent 2 (clampData b1) (clampData b2) } := by
  have hne : s.noteActive &&& ~~~ noteBit (clampData b1) ≠ 0 := by
    intro hzero
    simp [← ha, hzero] at htop
  rw [exec, execMidiNoteOff, State.noteOff_held hne, ha, maxBit_eq htop hlast, State.noteOn_none,
    State.setNoteActive_noteActive, or_noteBit_of_held htop]
  rfl

/-- Settles O9: the fields of the word, then the note-on with its clamped bytes. -/
theorem noteOnHoldsRetunesAndTriggers : Obligations.NoteOnHoldsRetunesAndTriggers := by
  refine ⟨fun w hw hb2 => ?_, fun b1 b2 note vel s hb2 hnote hvel => ?_⟩
  · exact (decode_noteOnStatus hw).trans (decodeMidi_noteOn hb2 _)
  · rw [exec_midiNoteOn hb2, clampData_eq hnote, clampData_eq hvel, lastEvent_eq]
    rfl

/-- Settles O11: by whether the set without the note is empty or has a highest note. -/
theorem noteOffReleasesOrRetunes : Obligations.NoteOffReleasesOrRetunes := by
  intro b1 b2 note vel s hnote hvel
  rw [← clampData_eq hnote, ← clampData_eq hvel, ← lastEvent_eq]
  exact ⟨fun h => exec_midiNoteOff_last h b2,
    fun top htop hlast => exec_midiNoteOff_held rfl htop hlast b2⟩

/-- Settles O12: both commands are the note-off of the clamped note, recorded with velocity 0. -/
theorem noteOnVel0IsNoteOff : Obligations.NoteOnVel0IsNoteOff := by
  refine ⟨fun w hw hb2 => ?_, fun b1 s => ⟨rfl, _, rfl, ?_⟩⟩
  · have hvel : fieldB2 w = 0 := hb2
    rw [decode_noteOnStatus hw, hvel]
    rfl
  · obtain ⟨hevent, hzero, hnote, hvel⟩ := lastEvent_bytes 2 (clampData b1) 0
    refine ⟨hevent, hzero, hvel, (congrArg BitVec.toNat hnote).trans ?_⟩
    rw [BitVec.toNat_setWidth_of_le (by decide), clampData_toNat]

end Sys2Proof.Machine
end

section
/-! SUPPORT. NOTE.LAST, OVF and the status snapshot are seen by the host only (R43, R90, R302): no
operation of the engine reads one of them to write anything else. -/

namespace Sys2Proof.Machine

section
variable {s t : State}

theorem State.SoundsLike.seq (h : s.SoundsLike t) : t.seq = s.seq := congrArg (·.seq) h

theorem State.SoundsLike.outside (h : s.SoundsLike t) : t.outside = s.outside :=
  congrArg (·.outside) h

end

/-- The three registers replaced. -/
def State.setReport (s : State) (last : BitVec 32) (ovf : Bool) (snapshot : Snapshot) : State :=
  { s with noteLast := last, ovf := ovf, snapshot := snapshot }

/-- An operation that answers states which sound alike where it is given such states. -/
def KeepsSoundsLike (f : State → State) : Prop :=
  ∀ s t : State, s.SoundsLike t → (f s).SoundsLike (f t)

/-- It is enough to replace the three registers in one state. -/
theorem KeepsSoundsLike.of_replaced {f : State → State}
    (hf : ∀ s last ovf snapshot, (f s).SoundsLike (f (s.setReport last ovf snapshot))) :
    KeepsSoundsLike f := by
  intro s t h
  rw [h]
  exact hf s t.noteLast t.ovf t.snapshot

theorem KeepsSoundsLike.comp {f g : State → State} (hg : KeepsSoundsLike g)
    (hf : KeepsSoundsLike f) : KeepsSoundsLike (g ∘ f) :=
  fun s t h => hg (f s) (f t) (hf s t h)

/-! ### The operations of the engine -/

theorem KeepsSoundsLike.setSeq (q : Seq) : KeepsSoundsLike (·.setSeq q) :=
  .of_replaced fun _ _ _ _ => rfl

theorem KeepsSoundsLike.takeBatch : KeepsSoundsLike State.takeBatch :=
  .of_replaced fun _ _ _ _ => rfl

theorem KeepsSoundsLike.startTicks : KeepsSoundsLike fun s => s.setSeq (.ticking s.cfg.block) :=
  .of_replaced fun _ _ _ _ => rfl

theorem KeepsSoundsLike.tick : KeepsSoundsLike State.tick := .of_replaced fun _ _ _ _ => rfl

/-- The snapshots may differ, as they copy NOTE.LAST and OVF (R268). -/
theorem KeepsSoundsLike.publish : KeepsSoundsLike State.publish := .of_replaced fun _ _ _ _ => rfl

/-! ### The commands -/

theorem KeepsSoundsLike.recordEvent (event : BitVec 8) (note vel : BitVec 7) :
    KeepsSoundsLike (State.recordEvent event note vel) :=
  .of_replaced fun _ _ _ _ => rfl

theorem KeepsSoundsLike.noteOn (note vel : BitVec 7) :
    KeepsSoundsLike (State.noteOn note (some vel)) := by
  refine .of_replaced fun s last ovf snapshot => ?_
  by_cases h : vel = 0
  · subst h
    rfl
  · rw [State.noteOn_some h, State.noteOn_some h]
    rfl

theorem KeepsSoundsLike.noteOff (note : BitVec 7) : KeepsSoundsLike (State.noteOff note) := by
  refine .of_replaced fun s last ovf snapshot => ?_
  by_cases h : s.noteActive &&& ~~~ noteBit note = 0
  · rw [State.noteOff_last h, State.noteOff_last (s := s.setReport last ovf snapshot) h]
    rfl
  · rw [State.noteOff_held h, State.noteOff_held (s := s.setReport last ovf snapshot) h]
    rfl

theorem KeepsSoundsLike.setOscType (x : F64) : KeepsSoundsLike (State.setOscType x) := by
  unfold State.setOscType
  cases waveformOf x <;> exact .of_replaced fun _ _ _ _ => rfl

theorem KeepsSoundsLike.setSubType (x : F64) : KeepsSoundsLike (State.setSubType x) := by
  unfold State.setSubType
  cases waveformOf x <;> exact .of_replaced fun _ _ _ _ => rfl

theorem KeepsSoundsLike.setFilterType (x : F64) : KeepsSoundsLike (State.setFilterType x) := by
  unfold State.setFilterType
  cases filterTypeOf x <;> exact .of_replaced fun _ _ _ _ => rfl

/-- An outcome that is computed by an operation which keeps `SoundsLike`. -/
def AnswersAlike (f : State → StepResult) : Prop :=
  ∃ g, KeepsSoundsLike g ∧ ∀ s, f s = .next (g s)

theorem AnswersAlike.withValue (v : F64) {f : F64 → State → State}
    (hf : ∀ x, KeepsSoundsLike (f x)) : AnswersAlike (withValue v f) := by
  cases h : v.finite with
  | false => exact ⟨id, fun _ _ h => h, withValue_not_finite h f⟩
  | true => exact ⟨_, hf _, withValue_finite h f⟩

/-- No command reads one of the three registers to write anything else. -/
theorem exec_answersAlike (i : Instr) : AnswersAlike (exec i) := by
  cases i with
  | nop | midiActiveSensing | midiBadLength | midiOther | paramUnknownDest | paramUnknownParam
  | reservedKind => exact ⟨id, fun _ _ h => h, fun _ => rfl⟩
  | midiNoteOn b1 b2 => exact ⟨_, .comp (.recordEvent _ _ _) (.noteOn _ _), fun _ => rfl⟩
  | midiNoteOnVel0 b1 | midiNoteOff b1 b2 =>
    exact ⟨_, .comp (.recordEvent _ _ _) (.noteOff _), fun _ => rfl⟩
  | paramOscType v => exact .withValue v .setOscType
  | paramSubType v => exact .withValue v .setSubType
  | paramFilterType v => exact .withValue v .setFilterType
  | paramOscLevel v | paramOscFrequency v | paramSubLevel v | paramSubFrequency v
  | paramFilterCutoff v | paramFilterResonance v | paramEnvAttack v | paramEnvDecay v
  | paramEnvSustain v | paramEnvRelease v | paramLfoLevel v | paramLfoFrequency v =>
    exact .withValue v fun _ => .of_replaced fun _ _ _ _ => rfl

/-! ### The step of the engine -/

/-- At each place in the block the engine's step is one operation that keeps `SoundsLike`. -/
theorem engineStep_alike (q : Seq) :
    ∃ g, KeepsSoundsLike g ∧ ∀ s, s.seq = q → engineStep s = .next (g s) := by
  match q with
  | .boundary => exact ⟨_, .takeBatch, fun _ => engineStep_boundary⟩
  | .applying [] => exact ⟨_, .startTicks, fun _ => engineStep_batchEnd⟩
  | .applying (w :: ws) =>
    obtain ⟨g, hkeeps, hexec⟩ := exec_answersAlike (decode w)
    exact ⟨_, hkeeps.comp (.setSeq (.applying ws)),
      fun _ h => (engineStep_apply h).trans (hexec _)⟩
  | .ticking 0 => exact ⟨_, .publish, fun _ => engineStep_publish⟩
  | .ticking (n + 1) => exact ⟨_, .comp (.setSeq _) .tick, fun _ => engineStep_tick⟩

/-- Settles O48: both states stand at the same place in the block, so both take the same
operation. -/
theorem soundIgnoresEventAndFlag : Obligations.SoundIgnoresEventAndFlag := by
  intro s t h
  obtain ⟨g, hkeeps, hstep⟩ := engineStep_alike s.seq
  have hst : (g s).SoundsLike (g t) := hkeeps s t h
  exact ⟨g s, g t, hstep s rfl, hstep t h.seq, hst, congrArg Outside.audio hst.outside.symm⟩

end Sys2Proof.Machine
end

section
/-! SUPPORT. The parameter commands (R330 to R349): the words that carry them, the sanitised VALUE,
the codes of the `type` VALUEs, and the one rule that each command applies to its VALUE. -/

namespace Sys2Proof

/-! ### Parameter words (R112, R114) -/

/-- The upper sixteen bits of a PARAM word name its destination and its parameter. -/
theorem decode_of_paramHead {w : CommandWord} {dest : BitVec 4} {par : BitVec 8}
    (h : w.extractLsb' 112 16 = (paramWord dest par F64.zero).extractLsb' 112 16) :
    decode w = decodeParam dest par ⟨w.extractLsb' 0 64⟩ := by
  have hkind : fieldKind w = 2 :=
    (extractLsb'_congr h 12 4 (by decide)).trans (paramWord_kind dest par F64.zero)
  have hdest : fieldDest w = dest :=
    (extractLsb'_congr h 8 4 (by decide)).trans (paramWord_dest dest par F64.zero)
  have hpar : fieldParam w = par :=
    (extractLsb'_congr h 0 8 (by decide)).trans (paramWord_param dest par F64.zero)
  rw [decode_kind_two hkind, hdest, hpar, fieldValue]

/-! ### Equality and clamping of values (R18) -/

theorem F64.eq_iff {x y : F64} :
    F64.eq x y = true ↔ (x.mag ≤ F64.infMag ∧ y.mag ≤ F64.infMag) ∧ x.key = y.key := by
  simp [F64.eq, F64.isNaN]

theorem F64.natAbs_key (x : F64) : x.key.natAbs = x.mag := by
  unfold F64.key
  split <;> omega

theorem F64.finite_of_eq {x y : F64} (hy : y.finite = true) (h : F64.eq x y = true) :
    x.finite = true := by
  rwa [F64.finite_iff, ← F64.natAbs_key, (F64.eq_iff.mp h).2, F64.natAbs_key, ← F64.finite_iff]

/-- A value is equal to at most one whole number below 2^53. -/
theorem F64.eq_ofNat_unique {x : F64} {i j : Nat} (hi : i < 2 ^ 53) (hj : j < 2 ^ 53)
    (hxi : F64.eq x (F64.ofNat i) = true) (hxj : F64.eq x (F64.ofNat j) = true) : i = j := by
  have hkey : (F64.ofNat i).key = (F64.ofNat j).key :=
    (F64.eq_iff.mp hxi).2.symm.trans (F64.eq_iff.mp hxj).2
  have hmag : (F64.ofNat i).mag = (F64.ofNat j).mag := by
    rw [← F64.natAbs_key, hkey, F64.natAbs_key]
  have hunits : i * F64.one1074 = j * F64.one1074 := by
    rw [← F64.units_ofNat hi, ← F64.units_ofNat hj, F64.units, hmag, ← F64.units]
  exact Nat.eq_of_mul_eq_mul_right F64.one1074_pos hunits

theorem F64.clamp_of_lt {v lo : F64} (h : F64.lt v lo = true) (hi : F64) :
    F64.clamp v lo hi = lo := if_pos h

theorem F64.clamp_of_gt {v lo hi : F64} (hle : F64.le lo hi = true) (h : F64.lt hi v = true) :
    F64.clamp v lo hi = hi := by
  have hlo : ¬ F64.lt v lo = true := fun hlt => by
    have := (F64.le_iff.mp hle).2
    have := (F64.lt_iff.mp h).2
    have := (F64.lt_iff.mp hlt).2
    omega
  rw [F64.clamp, if_neg hlo, if_pos h]

/-! ### The codes of a `type` VALUE (R118, R119, R334, R341) -/

/-- A value equal to a whole number below `k` is the code of that number. -/
theorem codeOf_of_eq {k i : Nat} {v : F64} (hi : i < k) (hk : k ≤ 2 ^ 53)
    (h : F64.eq v (F64.ofNat i) = true) : codeOf k v = some i := by
  refine List.find?_range_eq_some.mpr ⟨h, List.mem_range.mpr hi, fun j hj => ?_⟩
  have hne : F64.eq v (F64.ofNat j) = false := Bool.eq_false_iff.mpr fun hvj =>
    hj.ne (F64.eq_ofNat_unique (by omega) (by omega) hvj h)
  rw [hne, Bool.not_false]

/-- A value equal to no whole number below `k` is no code. -/
theorem codeOf_of_ne {k : Nat} {v : F64} (h : ∀ i < k, F64.eq v (F64.ofNat i) = false) :
    codeOf k v = none :=
  List.find?_range_eq_none.mpr fun i hi => by rw [h i hi, Bool.not_false]

theorem Waveform.code_lt (k : Waveform) : k.code < 4 := by cases k <;> decide

theorem Waveform.ofCode_code (k : Waveform) : Waveform.ofCode k.code = some k := by cases k <;> rfl

theorem Waveform.exists_code {i : Nat} (h : i < 4) : ∃ k : Waveform, k.code = i := by
  match i, h with
  | 0, _ => exact ⟨.sine, rfl⟩
  | 1, _ => exact ⟨.square, rfl⟩
  | 2, _ => exact ⟨.sawtooth, rfl⟩
  | 3, _ => exact ⟨.triangle, rfl⟩

theorem FilterType.code_lt (k : FilterType) : k.code < 5 := by cases k <;> decide

theorem FilterType.ofCode_code (k : FilterType) : FilterType.ofCode k.code = some k := by
  cases k <;> rfl

theorem FilterType.exists_code {i : Nat} (h : i < 5) : ∃ k : FilterType, k.code = i := by
  match i, h with
  | 0, _ => exact ⟨.lowpass, rfl⟩
  | 1, _ => exact ⟨.highpass, rfl⟩
  | 2, _ => exact ⟨.bandpass, rfl⟩
  | 3, _ => exact ⟨.notch, rfl⟩
  | 4, _ => exact ⟨.allpass, rfl⟩

section
variable {v : F64}

theorem waveformOf_of_eq {k : Waveform} (h : F64.eq v (F64.ofNat k.code) = true) :
    waveformOf v = some k := by
  rw [waveformOf, codeOf_of_eq k.code_lt (by decide) h]
  exact k.ofCode_code

theorem waveformOf_of_ne (h : ∀ k : Waveform, F64.eq v (F64.ofNat k.code) = false) :
    waveformOf v = none := by
  rw [waveformOf, codeOf_of_ne fun i hi => ?_]
  · rfl
  · obtain ⟨k, rfl⟩ := Waveform.exists_code hi
    exact h k

theorem filterTypeOf_of_eq {k : FilterType} (h : F64.eq v (F64.ofNat k.code) = true) :
    filterTypeOf v = some k := by
  rw [filterTypeOf, codeOf_of_eq k.code_lt (by decide) h]
  exact k.ofCode_code

theorem filterTypeOf_of_ne (h : ∀ k : FilterType, F64.eq v (F64.ofNat k.code) = false) :
    filterTypeOf v = none := by
  rw [filterTypeOf, codeOf_of_ne fun i hi => ?_]
  · rfl
  · obtain ⟨k, rfl⟩ := FilterType.exists_code hi
    exact h k

end

end Sys2Proof

namespace Sys2Proof.Machine

/-! ### The sanitised VALUE (R330, R18) -/

theorem mag_positiveZero (v : F64) : (positiveZero v).mag = v.mag := by
  unfold positiveZero
  split
  · rename_i h
    rw [F64.mag_zero, of_decide_eq_true h]
  · rfl

theorem key_positiveZero (v : F64) : (positiveZero v).key = v.key := by
  unfold positiveZero
  split
  · rename_i h
    have hkey := F64.natAbs_key v
    rw [of_decide_eq_true h] at hkey
    rw [F64.key_zero, Int.natAbs_eq_zero.mp hkey]
  · rfl

@[simp] theorem eq_positiveZero (v x : F64) : F64.eq (positiveZero v) x = F64.eq v x := by
  simp [F64.eq, F64.isNaN, mag_positiveZero, key_positiveZero]

@[simp] theorem lt_positiveZero_left (v x : F64) : F64.lt (positiveZero v) x = F64.lt v x := by
  simp [F64.lt, F64.isNaN, mag_positiveZero, key_positiveZero]

@[simp] theorem lt_positiveZero_right (v x : F64) : F64.lt x (positiveZero v) = F64.lt x v := by
  simp [F64.lt, F64.isNaN, mag_positiveZero, key_positiveZero]

/-! ### A command that applies a rule to its sanitised VALUE (R330) -/

section
variable {i : Instr} {v : F64} {f : F64 → State → State} {s : State} (hi : exec i = withValue v f)
include hi

theorem exec_of_finite {t : State} (hv : v.finite = true) (ht : f (positiveZero v) s = t) :
    exec i s = .next t := by
  rw [hi, withValue_finite hv]
  exact congrArg Host.Outcome.next ht

theorem exec_of_not_finite (hv : v.finite = false) : exec i s = .next s := by
  rw [hi, withValue_not_finite hv]

theorem exec_of_rule_keeps (hf : f (positiveZero v) s = s) : exec i s = .next s := by
  cases hv : v.finite with
  | false => exact exec_of_not_finite hi hv
  | true => exact exec_of_finite hi hv hf

end

/-! ### The rules of the fifteen commands (R333 to R347) -/

/-- What each parameter command does with its sanitised VALUE, in the order of `paramCommands`. -/
def paramRules : List (F64 → State → State) :=
  [fun x t => t.setOsc { t.osc with level := levelOf x },
   State.setOscType,
   fun x t => t.setOsc { t.osc with freq := freqOf t.cfg x },
   fun x t => t.setSub { t.sub with level := levelOf x },
   State.setSubType,
   fun x t => t.setSub { t.sub with freq := freqOf t.cfg x },
   fun x t => t.setFlt (t.flt.setCutoff t.cfg x),
   fun x t => t.setFlt (t.flt.setResonance t.cfg x),
   State.setFilterType,
   fun x t => t.setEnv { t.env with a := envParamOf x },
   fun x t => t.setEnv { t.env with d := envParamOf x },
   fun x t => t.setEnv { t.env with s := envParamOf x },
   fun x t => t.setEnv { t.env with r := envParamOf x },
   fun x t => t.setLfo { t.lfo with level := freqOf t.cfg x },
   fun x t => t.setLfo { t.lfo with freq := freqOf t.cfg x }]

theorem map_exec_paramCommands (v : F64) :
    (paramCommands v).map exec = paramRules.map (withValue v) := rfl

/-- Every parameter command applies one of the rules to its sanitised VALUE. -/
theorem exec_of_mem_paramCommands {v : F64} {i : Instr} (h : i ∈ paramCommands v) :
    ∃ f ∈ paramRules, exec i = withValue v f := by
  have hmem : exec i ∈ (paramCommands v).map exec := List.mem_map_of_mem h
  rw [map_exec_paramCommands] at hmem
  obtain ⟨f, hf, hexec⟩ := List.mem_map.mp hmem
  exact ⟨f, hf, hexec.symm⟩

theorem withValue_negZero : withValue F64.zero.neg = withValue F64.zero := by
  have h : sanitise F64.zero.neg = sanitise F64.zero := by decide
  funext f s
  rw [withValue, h, ← withValue]

/-- Settles O21: a VALUE that is not finite stops before the rule, and both zeros have one
sanitised form. -/
theorem paramValuesAreSanitised : Obligations.ParamValuesAreSanitised := by
  refine ⟨fun v i s hi hv => ?_, fun s k => ?_⟩
  · obtain ⟨f, -, hf⟩ := exec_of_mem_paramCommands hi
    exact exec_of_not_finite hf hv
  · have hexec : (paramCommands F64.zero.neg).map exec = (paramCommands F64.zero).map exec := by
      rw [map_exec_paramCommands, map_exec_paramCommands, withValue_negZero]
    have hk := congrArg (fun l => l[k.val]?.map (· s)) hexec
    simpa only [List.getElem?_map, Option.map_map, Function.comp_def] using hk

/-! ### The `type` rules (R334, R337, R341) -/

section
variable {x : F64}

theorem State.setOscType_of_some {k : Waveform} (h : waveformOf x = some k) (s : State) :
    s.setOscType x = s.setOsc { s.osc with kind := k } := by
  rw [State.setOscType, h]

theorem State.setOscType_of_none (h : waveformOf x = none) (s : State) : s.setOscType x = s := by
  rw [State.setOscType, h]

theorem State.setSubType_of_some {k : Waveform} (h : waveformOf x = some k) (s : State) :
    s.setSubType x = s.setSub { s.sub with kind := k } := by
  rw [State.setSubType, h]

theorem State.setSubType_of_none (h : waveformOf x = none) (s : State) : s.setSubType x = s := by
  rw [State.setSubType, h]

theorem State.setFilterType_of_some {k : FilterType} (h : filterTypeOf x = some k) (s : State) :
    s.setFilterType x = s.setFlt (s.flt.setType s.cfg k) := by
  rw [State.setFilterType, h]

theorem State.setFilterType_of_none (h : filterTypeOf x = none) (s : State) :
    s.setFilterType x = s := by
  rw [State.setFilterType, h]

end

/-! ### Applying a rule twice (R348) -/

theorem State.setOscType_setOscType (x : F64) (s : State) :
    (s.setOscType x).setOscType x = s.setOscType x := by
  cases h : waveformOf x with
  | none => simp only [State.setOscType_of_none h]
  | some k => simp only [State.setOscType_of_some h]; rfl

theorem State.setSubType_setSubType (x : F64) (s : State) :
    (s.setSubType x).setSubType x = s.setSubType x := by
  cases h : waveformOf x with
  | none => simp only [State.setSubType_of_none h]
  | some k => simp only [State.setSubType_of_some h]; rfl

theorem State.setFilterType_setFilterType (x : F64) (s : State) :
    (s.setFilterType x).setFilterType x = s.setFilterType x := by
  cases h : filterTypeOf x with
  | none => simp only [State.setFilterType_of_none h]
  | some k => simp only [State.setFilterType_of_some h]; rfl

/-- A rule writes what depends only on the VALUE and on registers that it keeps. -/
theorem paramRules_idempotent : ∀ f ∈ paramRules, ∀ x s, f x (f x s) = f x s :=
  List.forall_iff_forall_mem.mp
    ⟨fun _ _ => rfl, State.setOscType_setOscType, fun _ _ => rfl,
     fun _ _ => rfl, State.setSubType_setSubType, fun _ _ => rfl,
     fun _ _ => rfl, fun _ _ => rfl, State.setFilterType_setFilterType,
     fun _ _ => rfl, fun _ _ => rfl, fun _ _ => rfl, fun _ _ => rfl,
     fun _ _ => rfl, fun _ _ => rfl⟩

/-- Settles O22: without a rule to apply both runs change nothing, else the rule is idempotent. -/
theorem paramCommandsAreIdempotent : Obligations.ParamCommandsAreIdempotent := by
  intro v i s hi
  obtain ⟨f, hf, hexec⟩ := exec_of_mem_paramCommands hi
  cases hv : v.finite with
  | false => exact ⟨s, exec_of_not_finite hexec hv, exec_of_not_finite hexec hv⟩
  | true =>
    exact ⟨f (positiveZero v) s, exec_of_finite hexec hv rfl,
      exec_of_finite hexec hv (paramRules_idempotent f hf _ s)⟩

/-! ### Levels (R154, R155, R333, R336) -/

theorem levelOf_of_lt_zero {v : F64} (h : F64.lt v F64.zero = true) :
    levelOf (positiveZero v) = F64.zero := by
  have hlt : F64.lt (positiveZero v) F64.zero = true := (lt_positiveZero_left v _).trans h
  rw [levelOf, F64.clamp_of_lt hlt, vgain_ends.1]

theorem levelOf_of_gt_127 {v : F64} (h : F64.lt f127 v = true) :
    levelOf (positiveZero v) = F64.one := by
  have hgt : F64.lt f127 (positiveZero v) = true := (lt_positiveZero_right v _).trans h
  rw [levelOf, F64.clamp_of_gt (F64.le_zero_bound f127_isBound) hgt]
  exact vgain_ends.2

theorem exec_paramOscLevel {v level : F64} (h : v.finite = true)
    (hlevel : levelOf (positiveZero v) = level) (s : State) :
    exec (.paramOscLevel v) s = .next { s with osc := { s.osc with level := level } } :=
  exec_of_finite rfl h (hlevel ▸ rfl)

theorem exec_paramSubLevel {v level : F64} (h : v.finite = true)
    (hlevel : levelOf (positiveZero v) = level) (s : State) :
    exec (.paramSubLevel v) s = .next { s with sub := { s.sub with level := level } } :=
  exec_of_finite rfl h (hlevel ▸ rfl)

/-- 63.5 is half of 127, and the VALUE 0x405FC00000000000 is 127.0. -/
theorem levelOf_examples :
    levelOf (positiveZero (F64.ofRat false 127 2)) = F64.ofRat false 1 2 ∧
      levelOf (positiveZero ⟨0x405FC00000000000#64⟩) = F64.one ∧
      levelOf (positiveZero ⟨0x0#64⟩) = F64.zero := by
  decide +kernel

/-- Settles O14: by definition, by the two ends of the clamp, and the examples evaluated. -/
theorem levelCommandsWriteLevel : Obligations.LevelCommandsWriteLevel := by
  obtain ⟨hhalf, hfull, hnone⟩ := levelOf_examples
  refine ⟨fun w hw => decode_of_paramHead (dest := 0) (par := 0) (hw.trans (by decide)),
    fun w hw => decode_of_paramHead (dest := 1) (par := 0) (hw.trans (by decide)),
    fun v s hv => ⟨exec_paramOscLevel hv rfl s, exec_paramSubLevel hv rfl s⟩,
    fun v s hv => ⟨exec_of_not_finite rfl hv, exec_of_not_finite rfl hv⟩,
    fun v s hv hlt => exec_paramOscLevel hv (levelOf_of_lt_zero hlt) s,
    fun v s hv hgt => exec_paramOscLevel hv (levelOf_of_gt_127 hgt) s,
    fun s => exec_paramOscLevel (by decide +kernel) hhalf s,
    fun s => ?_, fun s => ?_⟩
  · exact exec_paramOscLevel (by decide) hfull s
  · exact exec_paramSubLevel (by decide) hnone s

/-! ### Waveforms (R156, R334, R337) -/

/-- Settles O15: a VALUE equal to a code is finite and has that code alone; any other VALUE has
none. -/
theorem typeCommandsSelectWaveform : Obligations.TypeCommandsSelectWaveform := by
  have hselect : ∀ (k : Waveform) (v : F64) (s : State), F64.eq v (F64.ofNat k.code) = true →
      exec (.paramOscType v) s = .next { s with osc := { s.osc with kind := k } } ∧
      exec (.paramSubType v) s = .next { s with sub := { s.sub with kind := k } } := by
    intro k v s h
    have hfin : v.finite = true :=
      F64.finite_of_eq (F64.finite_ofNat (k.code_lt.trans (by decide))) h
    have hk : waveformOf (positiveZero v) = some k :=
      waveformOf_of_eq ((eq_positiveZero v _).trans h)
    exact ⟨exec_of_finite rfl hfin (State.setOscType_of_some hk s),
      exec_of_finite rfl hfin (State.setSubType_of_some hk s)⟩
  refine ⟨fun w hw => decode_of_paramHead (dest := 0) (par := 1) (hw.trans (by decide)),
    fun w hw => decode_of_paramHead (dest := 1) (par := 1) (hw.trans (by decide)),
    hselect, fun v s h => ?_,
    fun s => (hselect .sine F64.zero.neg s (by decide +kernel)).1⟩
  have hnone : waveformOf (positiveZero v) = none :=
    waveformOf_of_ne fun k => (eq_positiveZero v _).trans (h k)
  exact ⟨exec_of_rule_keeps rfl (State.setOscType_of_none hnone s),
    exec_of_rule_keeps rfl (State.setSubType_of_none hnone s)⟩

/-! ### Frequencies and depths (R157, R186, R187, R335, R338, R346, R347) -/

/-- Settles O16: by definition of the two commands. -/
theorem frequencyCommandsWriteFrequency : Obligations.FrequencyCommandsWriteFrequency :=
  ⟨fun _ hw => decode_of_paramHead (dest := 0) (par := 2) (hw.trans (by decide)),
    fun _ hw => decode_of_paramHead (dest := 1) (par := 2) (hw.trans (by decide)),
    fun _ s hv => ⟨exec_of_finite rfl hv rfl, exec_of_finite rfl hv rfl⟩,
    fun _ s hv => ⟨exec_of_not_finite rfl hv, exec_of_not_finite rfl hv⟩⟩

/-- Settles O17: by definition of the two commands. -/
theorem lfoCommandsWriteDepthAndRate : Obligations.LfoCommandsWriteDepthAndRate :=
  ⟨fun _ hw => decode_of_paramHead (dest := 4) (par := 0) (hw.trans (by decide)),
    fun _ hw => decode_of_paramHead (dest := 4) (par := 2) (hw.trans (by decide)),
    fun _ s hv => ⟨exec_of_finite rfl hv rfl, exec_of_finite rfl hv rfl⟩,
    fun _ s hv => ⟨exec_of_not_finite rfl hv, exec_of_not_finite rfl hv⟩⟩

/-! ### The filter (R236 to R238, R339 to R341) -/

/-- Settles O18: by definition of the three commands, and by the code of a type VALUE. -/
theorem filterCommandsRecompute : Obligations.FilterCommandsRecompute := by
  refine ⟨fun w hw => decode_of_paramHead (dest := 2) (par := 3) (hw.trans (by decide)),
    fun w hw => decode_of_paramHead (dest := 2) (par := 4) (hw.trans (by decide)),
    fun w hw => decode_of_paramHead (dest := 2) (par := 1) (hw.trans (by decide)),
    fun v s hv => ⟨exec_of_finite rfl hv rfl, exec_of_finite rfl hv rfl⟩,
    fun k v s h => ?_, fun v s h => ?_,
    fun v s hv => ⟨exec_of_not_finite rfl hv, exec_of_not_finite rfl hv,
      exec_of_not_finite rfl hv⟩,
    fun c f => ⟨rfl, rfl, rfl, rfl, rfl, rfl, rfl⟩⟩
  · have hfin : v.finite = true :=
      F64.finite_of_eq (F64.finite_ofNat (k.code_lt.trans (by decide))) h
    have hk : filterTypeOf (positiveZero v) = some k :=
      filterTypeOf_of_eq ((eq_positiveZero v _).trans h)
    exact exec_of_finite rfl hfin (State.setFilterType_of_some hk s)
  · have hnone : filterTypeOf (positiveZero v) = none :=
      filterTypeOf_of_ne fun k => (eq_positiveZero v _).trans (h k)
    exact exec_of_rule_keeps rfl (State.setFilterType_of_none hnone s)

/-! ### The envelope parameters (R200, R342 to R345) -/

theorem exec_paramEnvAttack {v : F64} {a : BitVec 7} (h : v.finite = true)
    (ha : envParamOf (positiveZero v) = a) (s : State) :
    exec (.paramEnvAttack v) s = .next { s with env := { s.env with a := a } } :=
  exec_of_finite rfl h (ha ▸ rfl)

/-- Ties go to the even number, and 200 is clamped (R342). -/
theorem envParamOf_examples :
    envParamOf (positiveZero (F64.ofRat false 1 2)) = 0 ∧
      envParamOf (positiveZero (F64.ofRat false 3 2)) = 2 ∧
      envParamOf (positiveZero (F64.ofRat false 253 2)) = 126 ∧
      envParamOf (positiveZero (F64.ofNat 200)) = 127 := by
  decide +kernel

/-- Settles O20: by definition of the four commands, and the corner values evaluated. -/
theorem envelopeCommandsWriteParameters : Obligations.EnvelopeCommandsWriteParameters := by
  obtain ⟨hhalf, honeHalf, hbelowTop, habove⟩ := envParamOf_examples
  exact ⟨fun w hw => decode_of_paramHead (dest := 3) (par := 5) (hw.trans (by decide)),
    fun w hw => decode_of_paramHead (dest := 3) (par := 6) (hw.trans (by decide)),
    fun w hw => decode_of_paramHead (dest := 3) (par := 7) (hw.trans (by decide)),
    fun w hw => decode_of_paramHead (dest := 3) (par := 8) (hw.trans (by decide)),
    fun v s hv => ⟨exec_of_finite rfl hv rfl, exec_of_finite rfl hv rfl, exec_of_finite rfl hv rfl,
      exec_of_finite rfl hv rfl⟩,
    fun v s hv => ⟨exec_of_not_finite rfl hv, exec_of_not_finite rfl hv,
      exec_of_not_finite rfl hv, exec_of_not_finite rfl hv⟩,
    fun s => ⟨exec_paramEnvAttack (by decide +kernel) hhalf s,
      exec_paramEnvAttack (by decide +kernel) honeHalf s,
      exec_paramEnvAttack (by decide +kernel) hbelowTop s,
      exec_paramEnvAttack (F64.finite_ofNat (by decide)) habove s⟩⟩

end Sys2Proof.Machine
end

section
/-! SUPPORT. There are no exceptions (R380): every command and every step of the engine completes, a
host act outside the interface is refused, and an error class that is handled by ignoring changes
nothing (R381). -/

namespace Sys2Proof.Machine

/-! ### Completion (R380) -/

/-- Settles O23: what each command does is a total function on states (`exec_eq_next`). -/
theorem everyCommandCompletes : Obligations.EveryCommandCompletes := exec_completes

/-- The only step of the engine that could stop is the one that applies a command. -/
theorem engineStep_completes (s : State) : ∃ t, engineStep s = .next t := by
  obtain ⟨-, h⟩ | ⟨-, h⟩ | ⟨w, ws, -, h⟩ | ⟨-, h⟩ | ⟨n, -, h⟩ := engineStep_cases s
  · exact ⟨_, h⟩
  · exact ⟨_, h⟩
  · rw [h]
    exact exec_completes _ _
  · exact ⟨_, h⟩
  · exact ⟨_, h⟩

/-! ### Resets (R410, R411) -/

section
variable {s : State} {c : Config}

theorem State.resetTo_legal (hseq : s.seq = .boundary) (hc : c.legal = true) :
    s.resetTo c = .next ((State.resetWith c).setOutside s.outside) := by
  rw [State.resetTo, if_neg (not_not_intro hseq), if_pos hc]

theorem State.resetTo_illegal (hseq : s.seq = .boundary) (hc : c.legal = false) :
    s.resetTo c = .refused (.illegalConfig c) := by
  rw [State.resetTo, if_neg (not_not_intro hseq), if_neg (Bool.eq_false_iff.mp hc)]

theorem State.resetTo_insideBlock (hseq : s.seq ≠ .boundary) :
    s.resetTo c = .refused .resetInsideBlock :=
  if_pos hseq

theorem step_reset {rest : List HostAction} (h : s.outside.script = .reset c :: rest) :
    step s = (s.setScript rest).resetTo c :=
  machineStep_script h

end

/-! ### The host's acts (logs 13 and 14) -/

theorem step_run_completes {s : State} {n : Nat} {rest : List HostAction}
    (h : s.outside.script = .run n :: rest) : ∃ t, step s = .next t := by
  cases n with
  | zero => exact ⟨_, machineStep_script h⟩
  | succ n =>
    obtain ⟨t, ht⟩ := engineStep_completes (s.setScript rest)
    exact ⟨_, step_run_succ h ht⟩

/-- A step completes or is refused as the host's next act is inside the interface or not. -/
theorem step_by_actAllowed (s : State) :
    (s.actAllowed = true → ∃ t, step s = .next t) ∧
      (s.actAllowed = false → ∃ r, step s = .refused r) := by
  rcases h : s.outside.script with _ | ⟨a, rest⟩ <;> rw [State.actAllowed, h]
  · refine ⟨fun _ => ?_, nofun⟩
    obtain ⟨t, ht⟩ := engineStep_completes s
    exact ⟨t, (machineStep_no_script h).trans ht⟩
  · cases a with
    | push w => exact ⟨fun _ => ⟨_, step_push h⟩, nofun⟩
    | pushBytes bs =>
      refine ⟨fun hbs => ?_, fun hbs => ⟨_, step_pushBytes_partial h (of_decide_eq_false hbs)⟩⟩
      obtain ⟨w, rfl⟩ := exists_bytesOfWord_eq (of_decide_eq_true hbs)
      exact ⟨_, step_pushBytes h (wordOfBytes_bytesOfWord w)⟩
    | readStatus i =>
      exact ⟨fun hi => ⟨_, step_readStatus h (of_decide_eq_true hi)⟩,
        fun hi => ⟨_, step_readStatus_above h (Nat.not_le.mp (of_decide_eq_false hi))⟩⟩
    | readStatusBytes i =>
      exact ⟨fun hi => ⟨_, step_readStatusBytes h (of_decide_eq_true hi)⟩,
        fun hi => ⟨_, step_readStatusBytes_above h (Nat.not_le.mp (of_decide_eq_false hi))⟩⟩
    | reset c =>
      rw [step_reset h]
      by_cases hseq : s.seq = .boundary
      · rw [decide_eq_true hseq]
        exact ⟨fun hc => ⟨_, State.resetTo_legal hseq hc⟩,
          fun hc => ⟨_, State.resetTo_illegal hseq hc⟩⟩
      · rw [decide_eq_false hseq]
        exact ⟨nofun, fun _ => ⟨_, State.resetTo_insideBlock hseq⟩⟩
    | elapse =>
      refine ⟨fun _ => ?_, nofun⟩
      obtain ⟨t, ht⟩ := engineStep_completes (s.setScript rest)
      exact ⟨t, (machineStep_script h).trans ht⟩
    | run n => exact ⟨fun _ => step_run_completes h, nofun⟩

/-- Settles O24: by what the engine's step can be, and by the host's next act. -/
theorem engineNeverStops : Obligations.EngineNeverStops :=
  ⟨engineStep_completes, fun s => (step_by_actAllowed s).1, fun s => (step_by_actAllowed s).2⟩

/-! ### The error classes that are ignored (R381) -/

section
variable {e : ErrorClass}

theorem mem_classWhen {b : Bool} {e' : ErrorClass} :
    e ∈ classWhen b e' ↔ b = true ∧ e = e' := by
  cases b <;> simp [classWhen]

/-- A data byte out of range is clamped, not ignored (R293). -/
theorem not_mem_dataClasses (he : e.ignored = true) (b : Byte) : e ∉ dataClasses b := by
  intro h
  obtain ⟨-, rfl⟩ := mem_classWhen.mp h
  contradiction

/-- A note-off for a note that is not held is carried out, not ignored (R299). -/
theorem not_mem_heldClasses (he : e.ignored = true) (s : State) (b : Byte) :
    e ∉ heldClasses s b := by
  intro h
  obtain ⟨-, rfl⟩ := mem_classWhen.mp h
  contradiction

/-- A numeric VALUE is ignored only where it is not finite. -/
theorem not_finite_of_mem_rangeClasses {v lo hi : F64} (h : e ∈ rangeClasses v lo hi)
    (he : e.ignored = true) : v.finite = false := by
  refine Bool.eq_false_iff.mpr fun hv => ?_
  rw [rangeClasses, if_pos hv] at h
  obtain ⟨-, rfl⟩ := mem_classWhen.mp h
  contradiction

/-- A type VALUE that has a class is not finite or no code. -/
theorem not_finite_or_of_mem_codeClasses {k : Nat} {v : F64} (h : e ∈ codeClasses k v) :
    v.finite = false ∨ codeOf k v = none := by
  cases hv : v.finite with
  | false => exact .inl rfl
  | true =>
    rw [codeClasses, if_pos hv] at h
    exact .inr (Option.isNone_iff_eq_none.mp (mem_classWhen.mp h).1)

end

theorem codeOf_positiveZero (k : Nat) (v : F64) : codeOf k (positiveZero v) = codeOf k v := by
  simp only [codeOf, eq_positiveZero]

theorem waveformOf_of_codeOf_none {x : F64} (h : codeOf 4 x = none) : waveformOf x = none := by
  rw [waveformOf, h, Option.bind_none]

theorem filterTypeOf_of_codeOf_none {x : F64} (h : codeOf 5 x = none) :
    filterTypeOf x = none := by
  rw [filterTypeOf, h, Option.bind_none]

section
variable {i : Instr} {v : F64} {f : F64 → State → State} {s : State} {e : ErrorClass}
  (hexec : exec i = withValue v f)
include hexec

theorem exec_of_mem_rangeClasses {lo hi : F64} (h : e ∈ rangeClasses v lo hi)
    (he : e.ignored = true) : exec i s = .next s :=
  exec_of_not_finite hexec (not_finite_of_mem_rangeClasses h he)

theorem exec_of_mem_codeClasses {k : Nat} (h : e ∈ codeClasses k v)
    (hf : ∀ x, codeOf k x = none → f x s = s) : exec i s = .next s := by
  obtain hv | hcode := not_finite_or_of_mem_codeClasses h
  · exact exec_of_not_finite hexec hv
  · exact exec_of_rule_keeps hexec (hf _ ((codeOf_positiveZero k v).trans hcode))

end

/-- A command in an ignored class changes nothing: no class of a note command is ignored, and a
parameter command does not reach its rule or has no code to write. -/
theorem exec_of_ignored {i : Instr} {s : State} {e : ErrorClass} (h : e ∈ errorClasses s i)
    (he : e.ignored = true) : exec i s = .next s := by
  cases i with
  | nop | midiActiveSensing | midiBadLength | midiOther | paramUnknownDest | paramUnknownParam
  | reservedKind => rfl
  | midiNoteOn b1 b2 | midiNoteOnVel0 b1 | midiNoteOff b1 b2 =>
    simp [errorClasses, not_mem_dataClasses he, not_mem_heldClasses he] at h
  | paramOscType v =>
    exact exec_of_mem_codeClasses rfl h fun _ hx =>
      State.setOscType_of_none (waveformOf_of_codeOf_none hx) s
  | paramSubType v =>
    exact exec_of_mem_codeClasses rfl h fun _ hx =>
      State.setSubType_of_none (waveformOf_of_codeOf_none hx) s
  | paramFilterType v =>
    exact exec_of_mem_codeClasses rfl h fun _ hx =>
      State.setFilterType_of_none (filterTypeOf_of_codeOf_none hx) s
  | paramOscLevel v | paramOscFrequency v | paramSubLevel v | paramSubFrequency v
  | paramFilterCutoff v | paramFilterResonance v | paramEnvAttack v | paramEnvDecay v
  | paramEnvSustain v | paramEnvRelease v | paramLfoLevel v | paramLfoFrequency v =>
    exact exec_of_mem_rangeClasses rfl h he

/-- Settles O59: by the class of the command; a push in class E10 meets a full FIFO. -/
theorem ignoredErrorClassesChangeNothing : Obligations.IgnoredErrorClassesChangeNothing := by
  refine ⟨fun i s e => exec_of_ignored, fun s w h => ?_⟩
  obtain ⟨hfull, -⟩ := mem_classWhen.mp h
  exact State.pushWord_full (of_decide_eq_true hfull) w

end Sys2Proof.Machine
end

section
/-! SUPPORT. The start of a note (R191, R193, R194): a ramp length grows
with FS and with its parameter, and a ramp from 0.0 starts at 0.0. -/

namespace Sys2Proof

/-! ### Monotone products and rounding -/

/-- A product does not shrink when both magnitudes grow. -/
theorem F64.mag_mul_mono {x y x' y' : F64} (hx' : x'.finite = true) (hy' : y'.finite = true)
    (hx : x.mag ≤ x'.mag) (hy : y.mag ≤ y'.mag) : (F64.mul x y).mag ≤ (F64.mul x' y').mag := by
  have hfx : x.finite = true := F64.finite_iff.mpr (hx.trans_lt (F64.finite_iff.mp hx'))
  have hfy : y.finite = true := F64.finite_iff.mpr (hy.trans_lt (F64.finite_iff.mp hy'))
  rw [F64.mul_of_finite hfx hfy, F64.mul_of_finite hx' hy', F64.mag_ofMag_roundMag,
    F64.mag_ofMag_roundMag]
  exact F64.roundMag_mono F64.one1074_pos F64.one1074_pos
    (Nat.mul_le_mul_right _ (Nat.mul_le_mul (F64.units_mono hx) (F64.units_mono hy)))

/-- Rounding to a whole number keeps the order of nonnegative values. -/
theorem F64.rne_mono {x y : F64} (hx : x.sign = false) (hy : y.sign = false)
    (hfy : y.finite = true) (h : x.mag ≤ y.mag) : F64.rne x ≤ F64.rne y := by
  have hfx : x.finite = true := F64.finite_iff.mpr (h.trans_lt (F64.finite_iff.mp hfy))
  rw [F64.rne, F64.rne, if_pos hfx, if_pos hfy, hx, hy, if_neg Bool.false_ne_true,
    if_neg Bool.false_ne_true]
  exact Int.ofNat_le.mpr (F64.rneDiv_mono F64.one1074_pos F64.one1074_pos
    (Nat.mul_le_mul_right _ (F64.units_mono h)))

/-! ### Ramp lengths (R191) -/

/-- A ramp length grows with FS and with its parameter. -/
theorem rampLen_mono {c d : Config} (hc : c.legal = true) (hd : d.legal = true)
    (hfs : c.fs ≤ d.fs) {x y : BitVec 7} (hxy : x.toNat ≤ y.toNat) :
    (rampLen c x).toNat ≤ (rampLen d y).toNat := by
  have hfsd := Config.fs_bounds hd
  have hy : (F64.ofNat y.toNat).AtMost (1 * 127) := F64.atMost_ofNat (by omega)
  have hratio : (vgain (F64.ofNat y.toNat)).AtMost 1 :=
    hy.div le_rfl (by decide) (by decide) (by decide) finite_f127
  have hfive : (F64.ofNat 5).AtMost 5 := le_rfl
  have hseconds := hratio.mul hfive (by decide) (by decide)
  have hmag : (rampSamples c x).mag ≤ (rampSamples d y).mag := by
    refine F64.mag_mul_mono (hseconds.finite (by decide)) (F64.finite_ofNat (by omega)) ?_
      (F64.mag_ofNat_mono hfs)
    exact F64.mag_mul_mono (hratio.finite (by decide)) (hfive.finite (by decide))
      (vgain_mag_mono (hy.finite (by decide)) (F64.mag_ofNat_mono hxy)) le_rfl
  obtain ⟨-, hboundc⟩ := rampSamples_bounds hc x
  obtain ⟨hmostd, hboundd⟩ := rampSamples_bounds hd y
  have hrne := F64.rne_mono hboundc.sign hboundd.sign (hmostd.finite (by omega)) hmag
  have hlenc := (rampLen_toNat hc x).1
  have hlend := (rampLen_toNat hd y).1
  omega

/-- A ramp of a nonzero parameter has samples: 315 of them at the lowest FS. -/
theorem rampLen_pos {c : Config} (hc : c.legal = true) {x : BitVec 7} (hx : 0 < x.toNat) :
    0 < (rampLen c x).toNat := by
  have hlowest : rampLen { Config.reference with fs := 8000 } 1 = 315 := by decide +kernel
  calc 0 < (rampLen { Config.reference with fs := 8000 } 1).toNat := by rw [hlowest]; decide
    _ ≤ (rampLen c x).toNat := rampLen_mono (by decide) hc (Config.fs_bounds hc).1 hx

/-! ### The start of a ramp (R194) -/

/-- +0.0 and a zero of either sign make +0.0. -/
theorem F64.zero_add_of_mag_zero {y : F64} (h : y.mag = 0) : F64.add F64.zero y = F64.zero := by
  have hfin : y.finite = true := F64.finite_iff.mpr (h.trans_lt (by decide))
  have hsum : F64.zero.signedUnits + y.signedUnits = 0 := by
    have hzero : F64.zero.signedUnits = 0 := by decide
    have hy := F64.natAbs_signedUnits y
    have hunits : y.units = 0 := by rw [F64.units, h]; decide
    omega
  rw [F64.add_of_finite (by decide) hfin, F64.addFinite, if_pos hsum, F64.sign_zero,
    Bool.false_and]
  decide

/-- A number clamped between itself and another, in either order, stays. -/
theorem F64.clamp_left {a b : F64} (ha : a.mag ≤ F64.infMag) (hb : b.mag ≤ F64.infMag) :
    F64.clamp a (F64.min a b) (F64.max a b) = a := by
  have hlow : ¬ F64.lt a (F64.min a b) = true := by
    rw [F64.min_of_number ha hb, F64.lt_iff]
    split <;> omega
  have hhigh : ¬ F64.lt (F64.max a b) a = true := by
    rw [F64.max_of_number ha hb, F64.lt_iff]
    split <;> omega
  rw [F64.clamp, if_neg hlow, if_neg hhigh]

/-- At position 0 the line has not left 0.0: the quotient of R194 is 0, and so is its product. -/
theorem rampLine_from_zero {b : F64} (hb : b.AtMost 1) {n : Nat} (hn : 0 < n) (hn' : n ≤ 2 ^ 64) :
    rampLine F64.zero b 0 n = F64.zero := by
  have hquotient : (F64.div (F64.ofNat 0) (F64.ofNat n)).AtMost 0 :=
    F64.AtMost.div (b := 1) (F64.atMost_ofNat le_rfl) (F64.mag_ofNat_mono hn) (by decide)
      (by decide) (by decide) (F64.finite_ofNat_of_le hn')
  have hzero : F64.zero.AtMost 0 := F64.atMost_zero_iff.mpr F64.mag_zero
  have hproduct := (hb.sub hzero (by decide) (by decide)).mul hquotient (by decide) (by decide)
  exact F64.zero_add_of_mag_zero (F64.atMost_zero_iff.mp hproduct)

theorem ramp_from_zero {b : F64} (hb : b.AtMost 1) {n : Nat} (hn : 0 < n) (hn' : n ≤ 2 ^ 64) :
    ramp F64.zero b 0 n = F64.zero := by
  rw [ramp, rampLine_from_zero hb hn hn']
  exact F64.clamp_left (by decide) (hb.trans (F64.isBound_ofNat 1).number)

/-! ### The gain of a note that has just begun (R193, R195) -/

/-- Whatever ENV.D is, a trigger starts with the attack segment, at position 0. -/
theorem Env.triggerOn_gain {c : Config} {e : Env} (h : 0 < (rampLen c e.a).toNat)
    (vel : BitVec 7) :
    (e.triggerOn c vel).gain = ramp F64.zero (peakOf vel) 0 (rampLen c e.a).toNat := by
  by_cases hd : e.d.toNat < 127
  · rw [Env.triggerOn_decay hd]
    exact Env.gain_in_first (by decide : (2 : Fin 3) ≠ 0) h
  · rw [Env.triggerOn_hold hd]
    exact Env.gain_in_first (by decide : (1 : Fin 3) ≠ 0) h

/-- A note whose attack takes time is silent before its first tick. -/
theorem Env.triggerOn_gain_eq_zero {c : Config} (hc : c.legal = true) {e : Env}
    (ha : 0 < e.a.toNat) (vel : BitVec 7) : (e.triggerOn c vel).gain = F64.zero := by
  have hlen := rampLen_pos hc ha
  have hpeak := F64.atMost_one_of_within (Machine.peakOf_range vel).1
  rw [Env.triggerOn_gain hlen, ramp_from_zero hpeak hlen (rampLen c e.a).isLt.le]

end Sys2Proof
end

section
/-! SUPPORT. The order of commands within a batch (R90, R418), and what reset constructs (R410,
R411). -/

namespace Sys2Proof.Machine

/-! ### Batches of one and of two commands -/

section
variable {w v : CommandWord} {i j : Instr} {s t u : State}

theorem applyBatch_single (hw : decode w = i) (hi : exec i s = .next t) :
    applyBatch [w] s = .next t :=
  applyBatch_cons (hw ▸ hi) []

theorem applyBatch_pair (hw : decode w = i) (hv : decode v = j) (hi : exec i s = .next t)
    (hj : exec j t = .next u) : applyBatch [w, v] s = .next u :=
  (applyBatch_cons (hw ▸ hi) [v]).trans (applyBatch_single hv hj)

end

/-! ### The commands of R418 -/

theorem decode_noteOnWord {b2 : Byte} (h : b2 ≠ 0) (b1 : Byte) :
    decode (midiWord 3 0x90 b1 b2) = .midiNoteOn b1 b2 :=
  (decode_midiWord 3 0x90 b1 b2).trans (decodeMidi_noteOn h b1)

theorem decode_noteOffWord (b1 b2 : Byte) :
    decode (midiWord 3 0x80 b1 b2) = .midiNoteOff b1 b2 :=
  decode_midiWord 3 0x80 b1 b2

theorem decode_oscFrequencyWord (v : F64) : decode (paramWord 0 2 v) = .paramOscFrequency v :=
  decode_paramWord 0 2 v

theorem exec_paramOscFrequency {v : F64} (hv : v.finite = true) (s : State) :
    exec (.paramOscFrequency v) s = .next
      { s with osc := { s.osc with freq := freqOf s.cfg (positiveZero v) } } :=
  exec_of_finite rfl hv rfl

/-- An envelope parameter command writes among the four parameters and nothing else (R200). -/
theorem exec_envParam {p : BitVec 8} (hp : p ∈ [5#8, 6#8, 7#8, 8#8]) {v : F64}
    (hv : v.finite = true) (s : State) :
    ∃ a d su r, exec (decodeParam 3 p v) s = .next
      { s with env := { s.env with a := a, d := d, s := su, r := r } } := by
  simp only [List.mem_cons, List.not_mem_nil, or_false] at hp
  obtain rfl | rfl | rfl | rfl := hp
  · exact ⟨_, _, _, _, exec_of_finite (i := .paramEnvAttack v) rfl hv rfl⟩
  · exact ⟨_, _, _, _, exec_of_finite (i := .paramEnvDecay v) rfl hv rfl⟩
  · exact ⟨_, _, _, _, exec_of_finite (i := .paramEnvSustain v) rfl hv rfl⟩
  · exact ⟨_, _, _, _, exec_of_finite (i := .paramEnvRelease v) rfl hv rfl⟩

/-- To hold a note and let it go again leaves an empty set empty. -/
theorem or_noteBit_and_not_noteBit {a : BitVec 128} (ha : a = 0) (n : BitVec 7) :
    (a ||| noteBit n) &&& ~~~ noteBit n = 0 := by
  subst ha
  exact (congrArg (· &&& ~~~ noteBit n) BitVec.zero_or).trans (BitVec.and_not_self _)

/-- Settles O31: each batch is its two commands in turn. A note-on sets the frequency from the note,
whatever it was; the parameter writes none of the schedule; and the release starts from the gain of
the new attack at K = 0, which is 0.0 as the attack takes samples. -/
theorem orderWithinABatchMatters : Obligations.OrderWithinABatchMatters := by
  intro s v b1 b2 hv hb2
  have hnoteOn := decode_noteOnWord hb2 b1
  have hfreq := decode_oscFrequencyWord v
  refine ⟨⟨_, applyBatch_pair hfreq hnoteOn (exec_paramOscFrequency hv s) (exec_midiNoteOn hb2 _),
      congrArg (noteToFrequency · s.osc.oct) (clampData_toNat b1)⟩,
    ⟨_, applyBatch_pair hnoteOn hfreq (exec_midiNoteOn hb2 s) (exec_paramOscFrequency hv _), rfl⟩,
    fun p hp => ?_, fun hnotes hc ha => ?_⟩
  · obtain ⟨a, d, su, r, hparam⟩ := exec_envParam hp hv _
    exact ⟨_, _, applyBatch_single hnoteOn (exec_midiNoteOn hb2 s),
      applyBatch_pair hnoteOn (decode_paramWord 3 p v) (exec_midiNoteOn hb2 s) hparam, rfl⟩
  · have hempty := or_noteBit_and_not_noteBit hnotes (clampData b1)
    exact ⟨_, applyBatch_pair hnoteOn (decode_noteOffWord b1 0) (exec_midiNoteOn hb2 s)
        (exec_midiNoteOff_last hempty 0), rfl,
      Env.triggerOn_gain_eq_zero hc ha (clampData b2), rfl⟩

/-! ### Reset (R410, R411) -/

/-- The envelope of reset is silent: it has no schedule. -/
theorem resetEnv_gain : resetEnv.gain = F64.zero := Env.gain_unscheduled rfl

/-- Settles O38: a reset act by the place in the block and by the configuration; the registers of the
new engine are those that `resetRegs` names, and the coefficients are already recomputed. -/
theorem resetConstructsTheEngine : Obligations.ResetConstructsTheEngine := by
  refine ⟨fun s c rest hscript hseq => ⟨fun hc => ?_, fun hc => ?_⟩,
    fun s c rest hscript hseq => ?_, fun c => ?_⟩
  · exact (step_reset hscript).trans (State.resetTo_legal hseq hc)
  · exact (step_reset hscript).trans (State.resetTo_illegal hseq hc)
  · exact (step_reset hscript).trans (State.resetTo_insideBlock hseq)
  · have hflt : (State.resetWith c).flt = (State.resetWith c).flt.recompute c :=
      (recompute_recompute c _).symm
    exact ⟨rfl, rfl, rfl, rfl, rfl, rfl, rfl, rfl, rfl, rfl, hflt, rfl, rfl, rfl, rfl, rfl, rfl,
      rfl, rfl, rfl, rfl, resetEnv_gain, rfl⟩

end Sys2Proof.Machine
end
